-- ==== Sys2Proof/Word.lean ====
section
/-! DEFINITION. The word types of the block (00_scope.md R9, R10): every value is an unsigned bit vector of a stated
width, and arithmetic on it wraps at that width. -/

namespace Sys2Proof

/-- One bus payload, command byte, data byte or mirror register: 8 bits (20_memory.md R56). -/
abbrev Byte := BitVec 8

/-- A bus target address: 7 bits (00_scope.md R7, ADDR_BITS). -/
abbrev BusAddr := BitVec 7

/-- The width of LEN, RESULT and STATUS: 16 bits (00_scope.md R7, LEN_BITS). -/
abbrev Half := BitVec 16

/-- One request word (30_encoding.md R70). -/
abbrev ReqWord := BitVec 32

/-- Half of a byte: what one enable pulse latches (20_memory.md R59). -/
abbrev Nibble := BitVec 4

end Sys2Proof
end

