-- ==== Sys2Proof/Syntax.lean ====
section
/-! DEFINITION. The requests of the block: one constructor per row of spec/opcode_table.json (30_encoding.md R79), with
the operands of R71 to R78 at their exact widths; and the request lines of the host side's syntax (R93, R94). -/

namespace Sys2Proof

/-- A decoded request. Operand widths are those of R78, so every term is an instruction the encoding can carry (log 20). -/
inductive Instr where
  /-- INIT, format I (R73, 41_sequencer.md R131). -/
  | init (a : BusAddr) (cols rows : Byte) (font oled : Bool)
  /-- CMD, format B (42_byte_ops.md R140). -/
  | command (b : Byte)
  /-- WRITE, format B (R141). -/
  | writeChar (b : Byte)
  /-- WSTR, format L (R142). -/
  | writeString (len : Half)
  /-- CLEAR (43_control_ops.md R160). -/
  | clear
  /-- HOME (R161). -/
  | home
  /-- SETCUR, format P (R162). -/
  | setCursor (col row : Byte)
  /-- DISPLAY (R163). -/
  | display
  /-- NODISPLAY (R164). -/
  | noDisplay
  /-- CURSOR (R165). -/
  | cursor
  /-- NOCURSOR (R166). -/
  | noCursor
  /-- BLINK (R167). -/
  | blink
  /-- NOBLINK (R168). -/
  | noBlink
  /-- SCROLLL (R169). -/
  | scrollLeft
  /-- SCROLLR (R170). -/
  | scrollRight
  /-- MOVEL (R171). -/
  | moveCursorLeft
  /-- MOVER (R172). -/
  | moveCursorRight
  /-- LTR (R173). -/
  | setTextDirectionLtr
  /-- RTL (R174). -/
  | setTextDirectionRtl
  /-- AUTOSCROLL (R175). -/
  | autoscroll
  /-- NOAUTOSCROLL (R176). -/
  | noAutoscroll
  /-- DEFCHAR, format S (42_byte_ops.md R144). -/
  | defineCustomChar (slot : Byte) (src : Bool)
  /-- BLON (R177). -/
  | backlightOn
  /-- BLOFF (R178). -/
  | backlightOff
  /-- SETBL, format V (R179). -/
  | setBacklight (v : Bool)
  /-- LEGACY with id 0 (R180). -/
  | legacyStatus
  /-- LEGACY with id 1 (R180). -/
  | legacyKeypad
  /-- LEGACY with id 2 (R180). -/
  | legacyBargraph
  /-- LEGACY with id 3 (R180). -/
  | legacyContrast
  /-- LEGACY with id 4 (R180). -/
  | legacyDelay
  deriving DecidableEq, Repr

/-- A request line as the host side writes it (R93), pseudo-requests included (R94). Operands are numbers as written:
`SourceRequest.wf` checks that they fit their fields, and `assemble` gives the expansion (log 18). -/
inductive SourceRequest where
  /-- `init a, cols, rows, font[, oled]`. -/
  | init (a cols rows font : Nat) (oled : Option Nat)
  /-- `command b`. -/
  | command (b : Nat)
  /-- `writeChar b`. -/
  | writeChar (b : Nat)
  /-- `writeString len`, the bytes following on a `.din` line. -/
  | writeString (len : Nat)
  /-- `writeString "text"` (R94): the byte values of the text. -/
  | writeText (text : List Byte)
  /-- `writeString buf` without a length (R94): the bytes before the first 0 byte. -/
  | writeBuffer (buf : List Byte)
  /-- `setCursor col, row`. -/
  | setCursor (col row : Nat)
  /-- `defineCustomChar slot[, pgm]`. -/
  | defineCustomChar (slot : Nat) (pgm : Option Nat)
  /-- `createChar slot` (R94). -/
  | createChar (slot : Nat)
  /-- `createChar_P slot` (R94). -/
  | createCharP (slot : Nat)
  /-- `setBacklight v`. -/
  | setBacklight (v : Nat)
  /-- `setTextDirection ltr` or `rtl` (R94). -/
  | setTextDirection (ltr : Bool)
  /-- `moveCursor left` or `right` (R94). -/
  | moveCursor (right : Bool)
  /-- `legacy.status` to `legacy.delay`, by their number. -/
  | legacy (id : Nat)
  /-- Any other mnemonic of R79: `op` is the OP of its format-N row. -/
  | plain (op : Nat)
  deriving DecidableEq, Repr

end Sys2Proof
end

