-- ==== Sys2Proof/WellFormed.lean ====
section
/-! DEFINITION. The checks: which request words are legal (30_encoding.md R71 to R77, R80), written from the format rules
and not from the decoder; and which request lines of the host's syntax have operands that fit (R93). The decoded `Instr`
needs no check of its own: its operand types have exactly the widths of the fields (log 20). -/

namespace Sys2Proof

/-- The request formats of R71 to R77. -/
inductive Format where
  | n | b | i | p | l | s | v
  deriving DecidableEq, Repr

/-- The bits of `REQ[26:0]` that a format requires to be 0, as a mask (R71 to R77). -/
def Format.mustBeZero : Format → ReqWord
  | .n => 0x07FFFFFF#32
  | .b => 0x07FFFF00#32
  | .i => 0x06000000#32
  | .p => 0x07FF0000#32
  | .l => 0x07FF0000#32
  | .s => 0x07FFFE00#32
  | .v => 0x07FFFFFE#32

/-- The format of each OP (the opcode map of R79); none for the reserved OPs 0 and 27 to 31 (R80). -/
def formatOf (op : Nat) : Option Format :=
  if op = 1 then some .i
  else if op = 2 ∨ op = 3 ∨ op = 26 then some .b
  else if op = 4 then some .l
  else if op = 7 then some .p
  else if op = 22 then some .s
  else if op = 25 then some .v
  else if 5 ≤ op ∧ op ≤ 24 then some .n
  else none

/-- Is the request word legal (R80)? Its OP is not reserved, the bits its format requires to be 0 are 0, and a LEGACY
word has `B ≤ 4`. -/
def legalWord (w : ReqWord) : Bool :=
  match formatOf (w >>> 27).toNat with
  | none => false
  | some f => (w &&& f.mustBeZero) == 0#32 && ((w >>> 27) != 26#32 || decide ((w &&& 0xFF#32).toNat ≤ 4))

/-- Do the operands of a request line fit the fields of R73 to R78? -/
def SourceRequest.wf : SourceRequest → Bool
  | .init a cols rows _ oled =>
    decide (a < 128) && decide (cols < 256) && decide (rows < 256) && decide (oled.getD 0 < 2)
  | .command b => decide (b < 256)
  | .writeChar b => decide (b < 256)
  | .writeString len => decide (len < 65536)
  | .writeText text => decide (text.length < 65536)
  | .writeBuffer buf => buf.contains 0#8 && decide ((buf.takeWhile (· != 0#8)).length < 65536)
  | .setCursor col row => decide (col < 256) && decide (row < 256)
  | .defineCustomChar slot pgm => decide (slot < 256) && decide (pgm.getD 0 < 2)
  | .createChar slot => decide (slot < 256)
  | .createCharP slot => decide (slot < 256)
  | .setBacklight _ => true
  | .setTextDirection _ => true
  | .moveCursor _ => true
  | .legacy id => decide (id ≤ 4)
  | .plain op => formatOf op == some .n

end Sys2Proof
end

