-- ==== Sys2Proof/Decode.lean ====
section
/-! DEFINITION. The decoder of request words (30_encoding.md R70 to R81), total on any word and rejecting by name; the
encoder, written from the same formats; the opcode map R79 as a table of masks and matches; and the expansion of the host
side's request lines (R93, R94). -/

namespace Sys2Proof

/-- Why a request word is illegal (R80). The block reports every one of them as ILLEGAL_REQ (60_exceptions.md R201). -/
inductive Reject where
  /-- OP is 0 or 27 to 31. -/
  | reservedOp
  /-- A bit that the format requires to be 0 is 1. -/
  | mustBeZero
  /-- OP is 26 (LEGACY) and B is above 4. -/
  | legacyId
  deriving DecidableEq, Repr

/-- `OP = REQ[31:27]` (R70). -/
def opField (w : ReqWord) : BitVec 5 := w.extractLsb' 27 5
/-- `REQ[7:0]`: B, COL, COLS, SLOT (R72 to R76). -/
def lowByte (w : ReqWord) : Byte := w.extractLsb' 0 8
/-- `REQ[15:8]`: ROW, ROWS (R73, R74). -/
def secondByte (w : ReqWord) : Byte := w.extractLsb' 8 8

/-- Format N (R71): `REQ[26:0]` must be 0. -/
def decodeN (w : ReqWord) (i : Instr) : Except Reject Instr :=
  if w.extractLsb' 0 27 = 0#27 then .ok i else .error .mustBeZero

/-- Format B (R72): `REQ[26:8]` must be 0, `B = REQ[7:0]`. -/
def decodeB (w : ReqWord) (f : Byte → Except Reject Instr) : Except Reject Instr :=
  if w.extractLsb' 8 19 = 0#19 then f (lowByte w) else .error .mustBeZero

/-- Format I (R73): `REQ[26:25]` must be 0, OLED bit 24, FONT bit 23, A bits 22:16, ROWS bits 15:8, COLS bits 7:0. -/
def decodeI (w : ReqWord) : Except Reject Instr :=
  if w.extractLsb' 25 2 = 0#2 then
    .ok (.init (w.extractLsb' 16 7) (lowByte w) (secondByte w) (w.getLsbD 23) (w.getLsbD 24))
  else .error .mustBeZero

/-- Format P (R74): `REQ[26:16]` must be 0, ROW bits 15:8, COL bits 7:0. -/
def decodeP (w : ReqWord) : Except Reject Instr :=
  if w.extractLsb' 16 11 = 0#11 then .ok (.setCursor (lowByte w) (secondByte w)) else .error .mustBeZero

/-- Format L (R75): `REQ[26:16]` must be 0, LEN bits 15:0. -/
def decodeL (w : ReqWord) : Except Reject Instr :=
  if w.extractLsb' 16 11 = 0#11 then .ok (.writeString (w.extractLsb' 0 16)) else .error .mustBeZero

/-- Format S (R76): `REQ[26:9]` must be 0, SRC bit 8, SLOT bits 7:0. -/
def decodeS (w : ReqWord) : Except Reject Instr :=
  if w.extractLsb' 9 18 = 0#18 then .ok (.defineCustomChar (lowByte w) (w.getLsbD 8)) else .error .mustBeZero

/-- Format V (R77): `REQ[26:1]` must be 0, V bit 0. -/
def decodeV (w : ReqWord) : Except Reject Instr :=
  if w.extractLsb' 1 26 = 0#26 then .ok (.setBacklight (w.getLsbD 0)) else .error .mustBeZero

/-- The five LEGACY ids (R79, R80; 43_control_ops.md R180). -/
def legacyOf (b : Byte) : Except Reject Instr :=
  match b.toNat with
  | 0 => .ok .legacyStatus
  | 1 => .ok .legacyKeypad
  | 2 => .ok .legacyBargraph
  | 3 => .ok .legacyContrast
  | 4 => .ok .legacyDelay
  | _ => .error .legacyId

/-- The decoder: every word is one row of R79 or illegal by R80 (R81). -/
def decode (w : ReqWord) : Except Reject Instr :=
  match (opField w).toNat with
  | 1 => decodeI w
  | 2 => decodeB w (fun b => .ok (.command b))
  | 3 => decodeB w (fun b => .ok (.writeChar b))
  | 4 => decodeL w
  | 5 => decodeN w .clear
  | 6 => decodeN w .home
  | 7 => decodeP w
  | 8 => decodeN w .display
  | 9 => decodeN w .noDisplay
  | 10 => decodeN w .cursor
  | 11 => decodeN w .noCursor
  | 12 => decodeN w .blink
  | 13 => decodeN w .noBlink
  | 14 => decodeN w .scrollLeft
  | 15 => decodeN w .scrollRight
  | 16 => decodeN w .moveCursorLeft
  | 17 => decodeN w .moveCursorRight
  | 18 => decodeN w .setTextDirectionLtr
  | 19 => decodeN w .setTextDirectionRtl
  | 20 => decodeN w .autoscroll
  | 21 => decodeN w .noAutoscroll
  | 22 => decodeS w
  | 23 => decodeN w .backlightOn
  | 24 => decodeN w .backlightOff
  | 25 => decodeV w
  | 26 => decodeB w legacyOf
  | _ => .error .reservedOp

/-- A format-N word (R71). -/
def encodeN (op : BitVec 5) : ReqWord := op ++ 0#27
/-- A format-B word (R72). -/
def encodeB (op : BitVec 5) (b : Byte) : ReqWord := op ++ 0#19 ++ b
/-- A format-I word (R73). -/
def encodeI (op : BitVec 5) (a : BusAddr) (cols rows : Byte) (font oled : Bool) : ReqWord :=
  op ++ 0#2 ++ BitVec.ofBool oled ++ BitVec.ofBool font ++ a ++ rows ++ cols
/-- A format-P word (R74). -/
def encodeP (op : BitVec 5) (col row : Byte) : ReqWord := op ++ 0#11 ++ row ++ col
/-- A format-L word (R75). -/
def encodeL (op : BitVec 5) (len : Half) : ReqWord := op ++ 0#11 ++ len
/-- A format-S word (R76). -/
def encodeS (op : BitVec 5) (slot : Byte) (src : Bool) : ReqWord := op ++ 0#18 ++ BitVec.ofBool src ++ slot
/-- A format-V word (R77). -/
def encodeV (op : BitVec 5) (v : Bool) : ReqWord := op ++ 0#26 ++ BitVec.ofBool v

/-- The encoder: the request word of an instruction (R71 to R79). -/
def encode : Instr → ReqWord
  | .init a cols rows font oled => encodeI 1#5 a cols rows font oled
  | .command b => encodeB 2#5 b
  | .writeChar b => encodeB 3#5 b
  | .writeString len => encodeL 4#5 len
  | .clear => encodeN 5#5
  | .home => encodeN 6#5
  | .setCursor col row => encodeP 7#5 col row
  | .display => encodeN 8#5
  | .noDisplay => encodeN 9#5
  | .cursor => encodeN 10#5
  | .noCursor => encodeN 11#5
  | .blink => encodeN 12#5
  | .noBlink => encodeN 13#5
  | .scrollLeft => encodeN 14#5
  | .scrollRight => encodeN 15#5
  | .moveCursorLeft => encodeN 16#5
  | .moveCursorRight => encodeN 17#5
  | .setTextDirectionLtr => encodeN 18#5
  | .setTextDirectionRtl => encodeN 19#5
  | .autoscroll => encodeN 20#5
  | .noAutoscroll => encodeN 21#5
  | .defineCustomChar slot src => encodeS 22#5 slot src
  | .backlightOn => encodeN 23#5
  | .backlightOff => encodeN 24#5
  | .setBacklight v => encodeV 25#5 v
  | .legacyStatus => encodeB 26#5 0#8
  | .legacyKeypad => encodeB 26#5 1#8
  | .legacyBargraph => encodeB 26#5 2#8
  | .legacyContrast => encodeB 26#5 3#8
  | .legacyDelay => encodeB 26#5 4#8

/-- A row of the opcode map: a word belongs to it when `word & mask = pattern` (R79). -/
structure OpcodeRow where
  mnemonic : String
  mask : ReqWord
  pattern : ReqWord
  deriving DecidableEq, Repr

/-- The row of R79 each instruction belongs to, its mask and match transcribed from the map. -/
def Instr.row : Instr → OpcodeRow
  | .init _ _ _ _ _ => ⟨"init", 0xFE000000#32, 0x08000000#32⟩
  | .command _ => ⟨"command", 0xFFFFFF00#32, 0x10000000#32⟩
  | .writeChar _ => ⟨"writeChar", 0xFFFFFF00#32, 0x18000000#32⟩
  | .writeString _ => ⟨"writeString", 0xFFFF0000#32, 0x20000000#32⟩
  | .clear => ⟨"clear", 0xFFFFFFFF#32, 0x28000000#32⟩
  | .home => ⟨"home", 0xFFFFFFFF#32, 0x30000000#32⟩
  | .setCursor _ _ => ⟨"setCursor", 0xFFFF0000#32, 0x38000000#32⟩
  | .display => ⟨"display", 0xFFFFFFFF#32, 0x40000000#32⟩
  | .noDisplay => ⟨"noDisplay", 0xFFFFFFFF#32, 0x48000000#32⟩
  | .cursor => ⟨"cursor", 0xFFFFFFFF#32, 0x50000000#32⟩
  | .noCursor => ⟨"noCursor", 0xFFFFFFFF#32, 0x58000000#32⟩
  | .blink => ⟨"blink", 0xFFFFFFFF#32, 0x60000000#32⟩
  | .noBlink => ⟨"noBlink", 0xFFFFFFFF#32, 0x68000000#32⟩
  | .scrollLeft => ⟨"scrollLeft", 0xFFFFFFFF#32, 0x70000000#32⟩
  | .scrollRight => ⟨"scrollRight", 0xFFFFFFFF#32, 0x78000000#32⟩
  | .moveCursorLeft => ⟨"moveCursor.left", 0xFFFFFFFF#32, 0x80000000#32⟩
  | .moveCursorRight => ⟨"moveCursor.right", 0xFFFFFFFF#32, 0x88000000#32⟩
  | .setTextDirectionLtr => ⟨"setTextDirection.ltr", 0xFFFFFFFF#32, 0x90000000#32⟩
  | .setTextDirectionRtl => ⟨"setTextDirection.rtl", 0xFFFFFFFF#32, 0x98000000#32⟩
  | .autoscroll => ⟨"autoscroll", 0xFFFFFFFF#32, 0xA0000000#32⟩
  | .noAutoscroll => ⟨"noAutoscroll", 0xFFFFFFFF#32, 0xA8000000#32⟩
  | .defineCustomChar _ _ => ⟨"defineCustomChar", 0xFFFFFE00#32, 0xB0000000#32⟩
  | .backlightOn => ⟨"backlightOn", 0xFFFFFFFF#32, 0xB8000000#32⟩
  | .backlightOff => ⟨"backlightOff", 0xFFFFFFFF#32, 0xC0000000#32⟩
  | .setBacklight _ => ⟨"setBacklight", 0xFFFFFFFE#32, 0xC8000000#32⟩
  | .legacyStatus => ⟨"legacy.status", 0xFFFFFFFF#32, 0xD0000000#32⟩
  | .legacyKeypad => ⟨"legacy.keypad", 0xFFFFFFFF#32, 0xD0000001#32⟩
  | .legacyBargraph => ⟨"legacy.bargraph", 0xFFFFFFFF#32, 0xD0000002#32⟩
  | .legacyContrast => ⟨"legacy.contrast", 0xFFFFFFFF#32, 0xD0000003#32⟩
  | .legacyDelay => ⟨"legacy.delay", 0xFFFFFFFF#32, 0xD0000004#32⟩

/-- One instruction of each row, in the order of R79. -/
def oneOfEachRow : List Instr :=
  [.init 0 0 0 false false, .command 0, .writeChar 0, .writeString 0, .clear, .home, .setCursor 0 0]
    ++ [.display, .noDisplay, .cursor, .noCursor, .blink, .noBlink]
    ++ [.scrollLeft, .scrollRight, .moveCursorLeft, .moveCursorRight]
    ++ [.setTextDirectionLtr, .setTextDirectionRtl, .autoscroll, .noAutoscroll]
    ++ [.defineCustomChar 0 false, .backlightOn, .backlightOff, .setBacklight false]
    ++ [.legacyStatus, .legacyKeypad, .legacyBargraph, .legacyContrast, .legacyDelay]

/-- The opcode map of R79: its 30 rows. -/
def opcodeMap : List OpcodeRow := oneOfEachRow.map Instr.row

/-- Does the word belong to the row (R79)? -/
def OpcodeRow.holds (r : OpcodeRow) (w : ReqWord) : Bool := (w &&& r.mask) == r.pattern

/-- The instruction the decoder reads from a word of the opcode table, its bits numbered as the table numbers them. A
request is one 32-bit word (R70), so bits above 31 do not exist. -/
def decodeTableWord (nbits w : Nat) : Option Instr :=
  match decode (BitVec.ofNat 32 (w % 2 ^ nbits)) with
  | .ok i => some i
  | .error _ => none

/-- An operand field of a request line, already checked to fit (R93). -/
def operandByte (n : Nat) : Byte := BitVec.ofNat 8 n

/-- The request, with the DIN bytes the line itself brings, that a request line stands for (R93, R94); none where an
operand does not fit its field. -/
def assemble (r : SourceRequest) : Option (Instr × List Byte) :=
  if r.wf then
    match r with
    | .init a cols rows font oled =>
      some (.init (BitVec.ofNat 7 a) (operandByte cols) (operandByte rows) (font != 0) (oled.getD 0 != 0), [])
    | .command b => some (.command (operandByte b), [])
    | .writeChar b => some (.writeChar (operandByte b), [])
    | .writeString len => some (.writeString (BitVec.ofNat 16 len), [])
    | .writeText text => some (.writeString (BitVec.ofNat 16 text.length), text)
    | .writeBuffer buf =>
      let text := buf.takeWhile (· != 0#8)
      some (.writeString (BitVec.ofNat 16 text.length), text)
    | .setCursor col row => some (.setCursor (operandByte col) (operandByte row), [])
    | .defineCustomChar slot pgm => some (.defineCustomChar (operandByte slot) (pgm.getD 0 != 0), [])
    | .createChar slot => some (.defineCustomChar (operandByte slot) false, [])
    | .createCharP slot => some (.defineCustomChar (operandByte slot) true, [])
    | .setBacklight v => some (.setBacklight (v != 0), [])
    | .setTextDirection ltr => some (if ltr then .setTextDirectionLtr else .setTextDirectionRtl, [])
    | .moveCursor right => some (if right then .moveCursorRight else .moveCursorLeft, [])
    | .legacy id => (decodeTableWord 32 (26 * 2 ^ 27 + id)).map (·, [])
    | .plain op => (decodeTableWord 32 (op * 2 ^ 27)).map (·, [])
  else none

end Sys2Proof
end

