-- ==== Sys2Proof/Config.lean ====
section
/-! DEFINITION. The parameters of 00_scope.md R7: what an implementation fixes, and the free values the spec leaves open.
A parameter to which the spec gives a value is a definition with that value. A parameter the spec marks OPEN is an opaque
constant: nothing can be proved of its value, so every claim quantifies over it. -/

namespace Sys2Proof

/-- The frame-bit triple (P_RS, P_EN, P_BL) of 00_scope.md R8: one configuration, each position in 0..3. -/
structure Wiring where
  pRs : Fin 4
  pEn : Fin 4
  pBl : Fin 4
  deriving DecidableEq, Repr

/-- The constraint of R7 and R8: the three positions are distinct. -/
def Wiring.wf (w : Wiring) : Bool := w.pRs != w.pEn && w.pRs != w.pBl && w.pEn != w.pBl

/-- `RS = 1 << P_RS` (R8). -/
def Wiring.rs (w : Wiring) : Byte := 1#8 <<< w.pRs.val
/-- `EN = 1 << P_EN` (R8). -/
def Wiring.en (w : Wiring) : Byte := 1#8 <<< w.pEn.val
/-- `BLB = 1 << P_BL` (R8). -/
def Wiring.blb (w : Wiring) : Byte := 1#8 <<< w.pBl.val
/-- The one bit of 3:0 that is none of the three, as a mask (R7, P_SPARE). -/
def Wiring.spare (w : Wiring) : Byte := 0x0F#8 &&& ~~~(w.rs ||| w.en ||| w.blb)

/-- The parameter record CODES of 30_encoding.md R84. -/
structure Codes where
  clearDisplay : Byte
  returnHome : Byte
  entryModeSet : Byte
  eLeft : Byte
  eShift : Byte
  displayControl : Byte
  dOn : Byte
  cOn : Byte
  bOn : Byte
  cursorShift : Byte
  shDisplay : Byte
  shRight : Byte
  functionSet : Byte
  f8Bit : Byte
  f2Line : Byte
  f5x10 : Byte
  setCgramAddr : Byte
  setDdramAddr : Byte
  deriving DecidableEq, Repr

/-- Is `b` a single bit? -/
def isSingleBit (b : Byte) : Bool := b != 0#8 && (b &&& (b - 1#8)) == 0#8

/-- No two of the bytes share a set bit. -/
def pairwiseDisjoint : List Byte → Bool
  | [] => true
  | b :: bs => bs.all (fun c => (b &&& c) == 0#8) && pairwiseDisjoint bs

/-- The constraints every CODES value must meet (R84): each flag is a single bit, and the flags of one command are
disjoint from each other and from that command's own code. -/
def Codes.wf (c : Codes) : Bool :=
  [c.eLeft, c.eShift, c.dOn, c.cOn, c.bOn, c.shDisplay, c.shRight, c.f8Bit, c.f2Line, c.f5x10].all isSingleBit
    && pairwiseDisjoint [c.entryModeSet, c.eLeft, c.eShift]
    && pairwiseDisjoint [c.displayControl, c.dOn, c.cOn, c.bOn]
    && pairwiseDisjoint [c.cursorShift, c.shDisplay, c.shRight]
    && pairwiseDisjoint [c.functionSet, c.f8Bit, c.f2Line, c.f5x10]

namespace Config

/-- The triple this model fixes (R8): the spec's defaults `P_RS = 0`, `P_EN = 2`, `P_BL = 3`. PRESUMED (the spec's
decision D3, from general knowledge; log 9). -/
def wiring : Wiring := ⟨0, 2, 3⟩

/-- The spec's default CODES (R84). PRESUMED (the spec's decision D4, from general knowledge; log 10). -/
def codes : Codes where
  clearDisplay := 0x01#8
  returnHome := 0x02#8
  entryModeSet := 0x04#8
  eLeft := 0x02#8
  eShift := 0x01#8
  displayControl := 0x08#8
  dOn := 0x04#8
  cOn := 0x02#8
  bOn := 0x01#8
  cursorShift := 0x10#8
  shDisplay := 0x08#8
  shRight := 0x04#8
  functionSet := 0x20#8
  f8Bit := 0x10#8
  f2Line := 0x08#8
  f5x10 := 0x04#8
  setCgramAddr := 0x40#8
  setDdramAddr := 0x80#8

/-- NIB_8BIT (30_encoding.md R92). PRESUMED (D5; log 10). -/
def nib8Bit : Byte := 0x30#8
/-- NIB_4BIT (R92). PRESUMED (D5; log 10). -/
def nib4Bit : Byte := 0x20#8

/-- FONT_ONE_LINE_ONLY (41_sequencer.md R122). PRESUMED (D7; log 11). -/
def fontOneLineOnly : Bool := true

/-- CG_SLOTS and CG_ROWS (R7). -/
def cgSlots : Nat := 8
def cgRows : Nat := 8

/-- The settle times of R7, in µs; each is the payload of a Wait event. -/
def tPowerUs : Nat := 50000
def tProbeUs : Nat := 4500
def tProbe3Us : Nat := 150
def tClearUs : Nat := 2000
def tHomeUs : Nat := 2000

/-- The controller's minimums of R7: 450 ns and 37 µs, in ns; only the timing contract reads them. -/
def tEnMinNs : Nat := 450
def tCmdMinNs : Nat := 37000
/-- The 2 ms of 70_reset_and_hazards.md R226, in ns. -/
def tSlowNs : Nat := 2000000

/-- BL_INIT (R7): from the OLED flag to the backlight value INIT sets. OPEN in the spec (D8), so it has no body:
a free value (DESIGN CHOICE, log 2). -/
opaque blInit : Bool → Bool

/-- One less than half of CAP_FRAMES: the free value behind `capFrames`. OPEN in the spec (D9), so it has no body
(DESIGN CHOICE, log 3). -/
opaque capIndex : Fin 127

/-- CAP_FRAMES (R7): even and at least 2 by construction, whatever `capIndex` is; at most 254, since QF has 8 bits and
ranges over 0 to CAP_FRAMES (10_state.md R35; DEDUCED, log 3). -/
def capFrames : Nat := 2 * (capIndex.val + 1)

/-- The transport's answer to the Close with index `n` (counted from reset), where the state has not fixed one:
a free input (20_memory.md R51; DESIGN CHOICE, log 4). -/
opaque freeAck : Nat → Bool

end Config

end Sys2Proof
end

