-- ==== Sys2Proof/Machine/State.lean ====
section
/-! DEFINITION. The state of the block (10_state.md R20), its bus events (20_memory.md R51), its fault codes
(60_exceptions.md R200) and its power-on reset (10_state.md R38). Plain data throughout. -/

namespace Sys2Proof.Machine

/-- A bus event (20_memory.md R51). -/
inductive Event where
  /-- `Open(a)`: start a transaction to target `a`. -/
  | openTx (a : BusAddr)
  /-- `Wr(b)`: queue one byte for the open transaction. -/
  | wr (b : Byte)
  /-- `Close(stop)`: end the transaction; `stop` false keeps the physical transaction open. -/
  | closeTx (stop : Bool)
  /-- `Wait(t)`: at least `us` µs pass before the next event. -/
  | wait (us : Nat)
  deriving DecidableEq, Repr

/-- The row-start table ROWTAB[0..3] (10_state.md R22). -/
structure RowTab where
  r0 : Byte
  r1 : Byte
  r2 : Byte
  r3 : Byte
  deriving DecidableEq, Repr

/-- A request that holds because the DIN stream ran dry (20_memory.md R60, 60_exceptions.md R212). -/
inductive Held where
  /-- WSTR with length operand `len`, `left` characters still to read (42_byte_ops.md R142). -/
  | writeString (len : Half) (left : Nat)
  /-- DEFCHAR with `left` bitmap rows still to read (R144). -/
  | defineCustomChar (left : Nat)
  deriving DecidableEq, Repr

/-- The fault codes of `raise Fault(code)` (60_exceptions.md R200). Raising one sets its sticky bit of STATUS.FSET and the
block accepts the next request (R210), so it is a next state and never an end of the run: no step answers
`Host.Outcome.fault` (log 12). -/
inductive Fault where
  /-- Code 1, ILLEGAL_REQ: raised by the step for a word the decoder rejects (R201). Safe: the effect is the spec's. -/
  | illegalReq
  /-- Code 2, NOT_INIT: raised by every request but INIT and LEGACY while `SEQ != 9` (R202). Safe. -/
  | notInit
  /-- Code 3, REINIT: raised by INIT while `SEQ != 0` (R203). Safe. -/
  | reinit
  /-- Code 4, ROW_OOB: raised by SETCUR whose row index after the clamp is 4 or more (R204). Safe. -/
  | rowOob
  /-- Code 5, HANDLE_FAILED: raised by every request but INIT and LEGACY while STATUS.FAILED is 1 (R205). Safe. -/
  | handleFailed
  deriving DecidableEq, Repr

/-- Why a step has no meaning. -/
inductive Refusal where
  /-- Answered by an arm of `exec` for an instruction that has no meaning yet; there is none. Safe. -/
  | notModelled (mnemonic : String)
  deriving DecidableEq, Repr

/-- The state. -/
@[ext]
structure State where
  /-- ADDR (R21). -/
  addr : BusAddr
  /-- COLS (R21). -/
  cols : Byte
  /-- ROWS (R21). -/
  rows : Byte
  /-- FONT (R21). -/
  font : Bool
  /-- OLED (R21). -/
  oled : Bool
  /-- ROWTAB (R22). -/
  rowtab : RowTab
  /-- FUNC, the function flags (R23). -/
  func : Byte
  /-- DCTRL, the display-control flags (R24). -/
  dctrl : Byte
  /-- EMODE, the entry-mode flags (R25). -/
  emode : Byte
  /-- BL, the backlight flag (R26). -/
  bl : Bool
  /-- SEQ, the sequencer state (R28). -/
  seq : BitVec 4
  /-- STATUS.XFAIL (R31). -/
  xfail : Bool
  /-- STATUS.FAILED (R32). -/
  failed : Bool
  /-- STATUS.FSET: bit `c - 1` for fault code `c` (R33). -/
  fset : BitVec 5
  /-- RESULT (R34). -/
  result : Half
  /-- TXOPEN (R35). -/
  txopen : Bool
  /-- QF, the frames queued in the current WSTR transaction (R35). -/
  qf : Byte
  /-- The request port: the words the host issues, oldest first (30_encoding.md R70; log 5). -/
  requests : List ReqWord
  /-- The DIN stream, oldest byte first (20_memory.md R60). -/
  din : List Byte
  /-- The request that holds on an empty DIN stream (R60, 60_exceptions.md R212). -/
  held : Option Held
  /-- The acknowledges already fixed for the Closes to come; past its end they are free (log 4). The model's own. -/
  acks : List Bool
  /-- How many Closes have been emitted: the index of `Config.freeAck` (log 4). The model's own. -/
  closes : Nat
  /-- The trace: the events emitted so far, oldest first (00_scope.md R12). -/
  trace : List Event
  deriving DecidableEq, Repr

/-- Power-on reset (10_state.md R38, 70_reset_and_hazards.md R220). The registers INIT writes (`addr` to `bl`) have no
value in the spec: each is 0 here, a DESIGN CHOICE (log 1), and no request reads one before INIT has written it. -/
def State.reset : State where
  addr := 0
  cols := 0
  rows := 0
  font := false
  oled := false
  rowtab := ⟨0, 0, 0, 0⟩
  func := 0
  dctrl := 0
  emode := 0
  bl := false
  seq := 0
  xfail := false
  failed := false
  fset := 0
  result := 0
  txopen := false
  qf := 0
  requests := []
  din := []
  held := none
  acks := []
  closes := 0
  trace := []

end Sys2Proof.Machine
end

