-- ==== Sys2Proof/Machine/Flags.lean ====
section
/-! DEFINITION. Status fields and flag computations: the SEQ encoding (10_state.md R28), STATUS (R29, R30), the FSET bit of
each fault code (R33, 60_exceptions.md R200), and the mirror-register bytes (30_encoding.md R85 to R87). -/

namespace Sys2Proof.Machine

/-- The SEQ encoding of R28. -/
abbrev seqUnpowered : BitVec 4 := 0#4
abbrev seqEightBitProbe1 : BitVec 4 := 1#4
abbrev seqEightBitProbe2 : BitVec 4 := 2#4
abbrev seqEightBitProbe3 : BitVec 4 := 3#4
abbrev seqFourBitLatched : BitVec 4 := 4#4
abbrev seqFunctionConfigured : BitVec 4 := 5#4
abbrev seqDisplayOn : BitVec 4 := 6#4
abbrev seqCleared : BitVec 4 := 7#4
abbrev seqEntryModeSet : BitVec 4 := 8#4
abbrev seqHomed : BitVec 4 := 9#4

/-- STATUS.READY (R30). -/
def State.ready (s : State) : Bool := s.seq == seqHomed && !s.failed

/-- STATUS as the host reads it (R29): 15:13 reserved, 12:8 FSET, 7 reserved, 6 FAILED, 5 XFAIL, 4 READY, 3:0 SEQ. -/
def State.status (s : State) : Half :=
  0#3 ++ s.fset ++ 0#1 ++ BitVec.ofBool s.failed ++ BitVec.ofBool s.xfail ++ BitVec.ofBool s.ready ++ s.seq

/-- The code of a fault (60_exceptions.md R200). -/
def Fault.code : Fault → Nat
  | .illegalReq => 1
  | .notInit => 2
  | .reinit => 3
  | .rowOob => 4
  | .handleFailed => 5

/-- The bit of FSET a fault sets: STATUS bit `7 + c`, so bit `c - 1` of the field 12:8 (R210). -/
def Fault.fsetBit (c : Fault) : BitVec 5 := 1#5 <<< (c.code - 1)

/-- The set form and the clear form of a mirror update (43_control_ops.md R163, R173). -/
def setFlag (reg flag : Byte) : Byte := reg ||| flag
def clearFlag (reg flag : Byte) : Byte := reg &&& ~~~flag

/-- The function-set byte (R85). -/
def functionSetByte (func : Byte) : Byte := Config.codes.functionSet ||| func
/-- The display-control byte (R86). -/
def displayControlByte (dctrl : Byte) : Byte := Config.codes.displayControl ||| dctrl
/-- The entry-mode byte (R87). -/
def entryModeByte (emode : Byte) : Byte := Config.codes.entryModeSet ||| emode

/-- FUNC as INIT computes it (41_sequencer.md R122). -/
def functionFlags (rows : Byte) (font : Bool) : Byte :=
  (if rows > 1#8 then Config.codes.f2Line else 0#8)
    ||| (if font && (rows == 1#8 || !Config.fontOneLineOnly) then Config.codes.f5x10 else 0#8)

end Sys2Proof.Machine
end

