-- ==== Sys2Proof/Machine/Frame.lean ====
section
/-! DEFINITION. The frame encoder and the enable-pulse generator (40_frame_encoder.md R100 to R105), as the bus events each
primitive emits. The wiring is an argument (00_scope.md R8), so that a claim can hold for every wiring; the requests pass
`Config.wiring`. An acknowledge never changes the events (R108), so each is a plain list. -/

namespace Sys2Proof.Machine

/-- `buildFrame(n, rs, bl)` (R100). -/
def buildFrame (w : Wiring) (n : Byte) (rs bl : Bool) : Byte :=
  (n &&& 0xF0#8) ||| (if rs then w.rs else 0x00#8) ||| (if bl then w.blb else 0x00#8)

/-- `pulseEnable(f)` (R101): enable high, then enable low, nothing between. -/
def pulseEnable (w : Wiring) (f : Byte) : List Event := [.wr (f ||| w.en), .wr (f &&& ~~~w.en)]

/-- `nibbleOut(n, rs)` with BL = `bl` (R102). -/
def nibbleOut (w : Wiring) (bl : Bool) (n : Byte) (rs : Bool) : List Event := pulseEnable w (buildFrame w n rs bl)

/-- `sendByte(b, rs)` with BL = `bl` (R103): upper nibble first. -/
def sendByte (w : Wiring) (bl : Bool) (b : Byte) (rs : Bool) : List Event :=
  nibbleOut w bl (b &&& 0xF0#8) rs ++ nibbleOut w bl (b <<< 4) rs

/-- One transaction of its own to target `a`: opened, written, finalised (R104). -/
def transaction (a : BusAddr) (writes : List Event) : List Event := .openTx a :: (writes ++ [.closeTx true])

/-- `command(b)` (R104): register-select 0. -/
def commandEvents (a : BusAddr) (bl : Bool) (b : Byte) : List Event :=
  transaction a (sendByte Config.wiring bl b false)

/-- `data(b)` (R104): register-select 1. -/
def dataEvents (a : BusAddr) (bl : Bool) (b : Byte) : List Event :=
  transaction a (sendByte Config.wiring bl b true)

/-- `nibbleT(n)` (R104): one nibble alone, power-up only. -/
def nibbleEvents (a : BusAddr) (bl : Bool) (n : Byte) : List Event :=
  transaction a (nibbleOut Config.wiring bl n false)

/-- `backlightWrite()` (R105): a bare byte with the backlight flag only. -/
def backlightEvents (a : BusAddr) (bl : Bool) : List Event :=
  transaction a [.wr (if bl then Config.wiring.blb else 0x00#8)]

end Sys2Proof.Machine
end

