-- ==== Sys2Proof/Machine/Operands.lean ====
section
/-! DEFINITION. Operand computations: the row-start table and the cursor address (10_state.md R22, 43_control_ops.md R162),
the glyph slot (42_byte_ops.md R144), and the command bytes that carry an operand (30_encoding.md R88 to R90). -/

namespace Sys2Proof.Machine

/-- The table INIT writes: `{0x00, 0x40, COLS, 0x40 + COLS}`, entries modulo 256 (R22). -/
def RowTab.ofCols (cols : Byte) : RowTab := ⟨0x00#8, 0x40#8, cols, 0x40#8 + cols⟩

/-- `ROWTAB[r]`; none where `r` is 4 or more, out of the table (R22). -/
def RowTab.get (t : RowTab) (r : Byte) : Option Byte :=
  match r.toNat with
  | 0 => some t.r0
  | 1 => some t.r1
  | 2 => some t.r2
  | 3 => some t.r3
  | _ => none

/-- The row clamp (R162): the trigger is `row > ROWS`, strictly; `ROWS - 1` wraps at 8 bits. -/
def clampRow (rows row : Byte) : Byte := if row > rows then rows - 1#8 else row

/-- The DDRAM address of a position (R162): the column is never clamped, the sum wraps at 8 bits; none where the row index
is past the table. -/
def cursorAddress (rows : Byte) (tab : RowTab) (col row : Byte) : Option Byte :=
  (tab.get (clampRow rows row)).map (· + col)

/-- The set-DDRAM-address byte (30_encoding.md R90). -/
def setDdramByte (address : Byte) : Byte := Config.codes.setDdramAddr ||| address

/-- The glyph slot: the slot byte masked to 3 bits (42_byte_ops.md R144). -/
def glyphSlot (slot : Byte) : Byte := slot &&& 0x07#8

/-- The set-CGRAM-address byte of a slot (30_encoding.md R89). -/
def setCgramByte (slot : Byte) : Byte := Config.codes.setCgramAddr ||| (glyphSlot slot <<< 3)

/-- The shift byte (30_encoding.md R88). -/
def shiftByte (display right : Bool) : Byte :=
  Config.codes.cursorShift
    ||| (if display then Config.codes.shDisplay else 0#8)
    ||| (if right then Config.codes.shRight else 0#8)

end Sys2Proof.Machine
end

