-- ==== Sys2Proof/Machine/Ops.lean ====
section
/-! DEFINITION. The operations every request is built from: emitting events and noting acknowledges (40_frame_encoder.md
R104, R108), refusing a request (60_exceptions.md R209, R210), the request port and the DIN stream (20_memory.md R60, R65),
and what the host and the transport can do from outside (00_scope.md R5). -/

namespace Sys2Proof.Machine

/-! Writing one register. -/

def State.setFunc (s : State) (v : Byte) : State := { s with func := v }
def State.setDctrl (s : State) (v : Byte) : State := { s with dctrl := v }
def State.setEmode (s : State) (v : Byte) : State := { s with emode := v }
def State.setBl (s : State) (v : Bool) : State := { s with bl := v }
def State.setSeq (s : State) (v : BitVec 4) : State := { s with seq := v }
def State.setFailed (s : State) (v : Bool) : State := { s with failed := v }
def State.setTxopen (s : State) (v : Bool) : State := { s with txopen := v }
def State.setQf (s : State) (v : Byte) : State := { s with qf := v }
def State.setDin (s : State) (v : List Byte) : State := { s with din := v }
def State.setRequests (s : State) (v : List ReqWord) : State := { s with requests := v }
def State.setHeld (s : State) (v : Option Held) : State := { s with held := v }

/-- `result <- v` (00_scope.md R11). -/
def State.setResult (s : State) (v : Half) : State := { s with result := v }

/-- The transport's answer to the `n`-th Close from now: as fixed in `acks`, else free (20_memory.md R51; log 4). -/
def State.ackAt (s : State) (n : Nat) : Bool := (s.acks[n]?).getD (Config.freeAck (s.closes + n))

/-- `noteAck(ack)` (R108): a negative acknowledge sets the sticky XFAIL and changes nothing else. INIT finds its own
`initFail` with `State.nacked`. -/
def State.noteAck (s : State) (ack : Bool) : State := { s with xfail := s.xfail || !ack }

/-- Append one event to the trace. -/
def State.record (s : State) (e : Event) : State := { s with trace := s.trace ++ [e] }

/-- The acknowledge of one Close has been taken. -/
def State.ackTaken (s : State) : State := { s with acks := s.acks.drop 1, closes := s.closes + 1 }

/-- Emit one event (R104): Open sets TXOPEN, Close sets it to `not stop` and notes the acknowledge. -/
def State.emitOne (s : State) : Event → State
  | .openTx a => (s.record (.openTx a)).setTxopen true
  | .wr b => s.record (.wr b)
  | .closeTx stop => ((s.record (.closeTx stop)).ackTaken.noteAck (s.ackAt 0)).setTxopen !stop
  | .wait us => s.record (.wait us)

/-- Emit events in order (00_scope.md R11). -/
def State.emit (s : State) : List Event → State
  | [] => s
  | e :: es => (s.emitOne e).emit es

/-- How many Closes are among the events. -/
def closeCount : List Event → Nat
  | [] => 0
  | .closeTx _ :: es => closeCount es + 1
  | _ :: es => closeCount es

/-- Will the transport answer one of the next `n` Closes with a negative acknowledge? -/
def State.nackedIn (s : State) (n : Nat) : Bool := (List.range n).any (fun k => !s.ackAt k)

/-- Is a Close of these events, emitted from this state, answered with a negative acknowledge (R108, `initFail`)? -/
def State.nacked (s : State) (es : List Event) : Bool := s.nackedIn (closeCount es)

/-- The end of a request that reads no input: its events, then its result. -/
def perform (es : List Event) (v : Half) (s : State) : Host.Outcome State Fault Refusal :=
  .next ((s.emit es).setResult v)

/-- `raise Fault(c)` (60_exceptions.md R210): set the FSET bit of the code; no event, no other change. -/
def State.raiseFault (s : State) (c : Fault) : State := { s with fset := s.fset ||| c.fsetBit }

/-- A refused request: the block accepts the next one, so this is a next state (R210; log 12). -/
def refuse (c : Fault) (s : State) : Host.Outcome State Fault Refusal := .next (s.raiseFault c)

/-- `guardSteady()` for a legal request (R209): HANDLE_FAILED, then NOT_INIT; `k` is the accepted request. -/
def guardSteady (s : State) (k : State → Host.Outcome State Fault Refusal) : Host.Outcome State Fault Refusal :=
  if s.failed then refuse .handleFailed s
  else if s.seq ≠ seqHomed then refuse .notInit s
  else k s

/-- Take the next request word from the request port; none where the host has issued none (30_encoding.md R70). -/
def State.takeRequest (s : State) : Option (ReqWord × State) :=
  match s.requests with
  | [] => none
  | w :: ws => some (w, s.setRequests ws)

/-- What a step does with nothing held and no request issued: the block waits for the host. -/
def idle (s : State) : Host.Outcome State Fault Refusal := .next s

/-- A word the decoder rejects (60_exceptions.md R201). -/
def illegalRequest (s : State) : Host.Outcome State Fault Refusal := refuse .illegalReq s

/-- `DinRead()` (20_memory.md R60); none where the stream is empty and the block holds. -/
def State.dinRead (s : State) : Option (Byte × State) :=
  match s.din with
  | [] => none
  | b :: bs => some (b, s.setDin bs)

/-- The host issues one more request word (00_scope.md R5). -/
def State.issue (s : State) (w : ReqWord) : State := s.setRequests (s.requests ++ [w])

/-- The host supplies input bytes (R60). -/
def State.supplyDin (s : State) (bs : List Byte) : State := s.setDin (s.din ++ bs)

/-- The environment fixes acknowledges to come (20_memory.md R51). -/
def State.answerAcks (s : State) (as : List Bool) : State := { s with acks := s.acks ++ as }

/-- The word stands where the next step takes its request from: at the head of the request port, with nothing held. -/
def State.placeRequest (s : State) (w : ReqWord) : State :=
  (s.setRequests (w :: s.requests)).setHeld none

end Sys2Proof.Machine
end

