-- ==== Sys2Proof/Machine/ByteOps.lean ====
section
/-! DEFINITION. The byte requests CMD, WRITE, WSTR, DEFCHAR (42_byte_ops.md R140 to R144), with the hold on an empty DIN
stream (20_memory.md R60) and how a held request goes on. -/

namespace Sys2Proof.Machine

/-- CMD (R140): the byte is sent as is, register-select 0; no Wait, no mirror change. -/
def execCommand (b : Byte) (s : State) : Host.Outcome State Fault Refusal :=
  guardSteady s (fun s => perform (commandEvents s.addr s.bl b) 0#16 s)

/-- WRITE (R141): register-select 1; RESULT is 1. -/
def execWriteChar (b : Byte) (s : State) : Host.Outcome State Fault Refusal :=
  guardSteady s (fun s => perform (dataEvents s.addr s.bl b) 1#16 s)

/-- The flush of WSTR before the next character's two frames (R142), where they would exceed the capacity `cap`. The sum is
taken without wrapping (log 16). -/
def wstrFlush (cap : Nat) (s : State) : State :=
  if s.qf.toNat + 2 > cap then (s.emit [.closeTx false, .openTx s.addr]).setQf 0#8 else s

/-- One character of WSTR (R142): flush where needed, send it with register-select 1, count its two frames. -/
def wstrChar (cap : Nat) (c : Byte) (s : State) : State :=
  let s' := wstrFlush cap s
  (s'.emit (sendByte Config.wiring s'.bl c true)).setQf (s'.qf + 2#8)

/-- The end of WSTR (R142). -/
def wstrFinish (len : Half) (s : State) : State :=
  (((s.emit [.closeTx true]).setQf 0#8).setHeld none).setResult len

/-- The loop of WSTR with `left` characters to go (R142); on an empty DIN stream the block holds, inside the open
transaction, and changes nothing else (R60). -/
def wstrLoop (cap : Nat) (len : Half) : Nat → State → State
  | 0, s => wstrFinish len s
  | n + 1, s =>
    match s.dinRead with
    | none => s.setHeld (some (.writeString len (n + 1)))
    | some (c, s') => wstrLoop cap len n (wstrChar cap c s')

/-- The accepted WSTR (R142): no event where LEN is 0. -/
def wstrBody (cap : Nat) (len : Half) (s : State) : State :=
  if len = 0#16 then s.setResult 0#16
  else wstrLoop cap len len.toNat ((s.emit [.openTx s.addr]).setQf 0#8)

/-- WSTR (R142). -/
def execWriteString (len : Half) (s : State) : Host.Outcome State Fault Refusal :=
  guardSteady s (fun s => .next (wstrBody Config.capFrames len s))

/-- The row loop of DEFCHAR with `left` bitmap rows to go (R144): each row is a data byte in a transaction of its own. -/
def glyphLoop : Nat → State → State
  | 0, s => (s.setHeld none).setResult 0#16
  | n + 1, s =>
    match s.dinRead with
    | none => s.setHeld (some (.defineCustomChar (n + 1)))
    | some (r, s') => glyphLoop n (s'.emit (dataEvents s'.addr s'.bl r))

/-- DEFCHAR (R144): SRC is ignored. -/
def execDefineCustomChar (slot : Byte) (_src : Bool) (s : State) : Host.Outcome State Fault Refusal :=
  guardSteady s (fun s => .next (glyphLoop Config.cgRows (s.emit (commandEvents s.addr s.bl (setCgramByte slot)))))

/-- A held request goes on where it stopped (20_memory.md R60); with DIN still empty it holds on, unchanged. -/
def resumeHeld : Held → State → Host.Outcome State Fault Refusal
  | .writeString len left, s => .next (wstrLoop Config.capFrames len left s)
  | .defineCustomChar left, s => .next (glyphLoop left s)

end Sys2Proof.Machine
end

