-- ==== Sys2Proof/Machine/Sequencer.lean ====
section
/-! DEFINITION. The clear and home bodies (43_control_ops.md R160, R161) and the power-up sequencer INIT (41_sequencer.md
R120 to R131). -/

namespace Sys2Proof.Machine

/-- The events of `setCursorBody(0, 0)`, the OLED re-home (R160). The row 0 is in every table, so it cannot raise ROW_OOB
(60_exceptions.md R200) and the `none` case is never taken. -/
def rehomeEvents (s : State) : List Event :=
  match cursorAddress s.rows s.rowtab 0#8 0#8 with
  | some address => commandEvents s.addr s.bl (setDdramByte address)
  | none => []

/-- The events of `clearBody()` (R160): clear, its settle wait, and on OLED the re-home after it. -/
def clearEvents (s : State) : List Event :=
  commandEvents s.addr s.bl Config.codes.clearDisplay ++ [.wait Config.tClearUs]
    ++ (if s.oled then rehomeEvents s else [])

/-- The events of `homeBody()` (R161). -/
def homeEvents (s : State) : List Event :=
  commandEvents s.addr s.bl Config.codes.returnHome ++ [.wait Config.tHomeUs]

/-- The configuration part of INIT (R121), with `bl` the value of `BL_INIT(OLED)`. -/
def State.configure (s : State) (bl : Bool) (a : BusAddr) (cols rows : Byte) (font oled : Bool) : State :=
  { s with addr := a, cols := cols, rows := rows, font := font, oled := oled, rowtab := RowTab.ofCols cols, bl := bl }

/-- The mirror registers INIT writes: FUNC (R122), DCTRL (R127), EMODE (R129). INIT is one atomic request (00_scope.md R6),
so that they are written before its first event cannot be observed (log 13). -/
def State.initMirrors (s : State) : State :=
  ((s.setFunc (functionFlags s.rows s.font)).setDctrl Config.codes.dOn).setEmode Config.codes.eLeft

/-- Steps 1 to 8 of the sequence (R123 to R130), cut at the points where SEQ advances: each phase is the SEQ value it
reaches (10_state.md R28) and the events up to there. -/
def initPhases (s : State) : List (BitVec 4 × List Event) :=
  [ (seqEightBitProbe1, .wait Config.tPowerUs :: nibbleEvents s.addr s.bl Config.nib8Bit),
    (seqEightBitProbe2, .wait Config.tProbeUs :: nibbleEvents s.addr s.bl Config.nib8Bit),
    (seqEightBitProbe3, .wait Config.tProbeUs :: nibbleEvents s.addr s.bl Config.nib8Bit),
    (seqFourBitLatched, .wait Config.tProbe3Us :: nibbleEvents s.addr s.bl Config.nib4Bit),
    (seqFunctionConfigured, commandEvents s.addr s.bl (functionSetByte s.func)),
    (seqDisplayOn, commandEvents s.addr s.bl (displayControlByte s.dctrl)),
    (seqCleared, clearEvents s),
    (seqEntryModeSet, commandEvents s.addr s.bl (entryModeByte s.emode)),
    (seqHomed, homeEvents s) ]

/-- Run phases in order: emit the events of each, then set SEQ to the value it reaches. -/
def State.runPhases (s : State) : List (BitVec 4 × List Event) → State
  | [] => s
  | (label, es) :: ps => ((s.emit es).setSeq label).runPhases ps

/-- All events of the phases, in order. -/
def phaseEvents (ps : List (BitVec 4 × List Event)) : List Event := ps.flatMap Prod.snd

/-- The accepted INIT (R131), with `bl` the value of `BL_INIT(OLED)`: the registers, the sequence, FAILED if a Close of the
sequence was answered negatively, RESULT 0. -/
def initBody (bl : Bool) (a : BusAddr) (cols rows : Byte) (font oled : Bool) (s : State) : State :=
  let s0 := (s.configure bl a cols rows font oled).initMirrors
  let ps := initPhases s0
  let s1 := s0.runPhases ps
  (s1.setFailed (s1.failed || s0.nacked (phaseEvents ps))).setResult 0#16

/-- INIT (R131): refused with REINIT unless `SEQ = 0` (60_exceptions.md R203). -/
def execInit (a : BusAddr) (cols rows : Byte) (font oled : Bool) (s : State) : Host.Outcome State Fault Refusal :=
  if s.seq ≠ seqUnpowered then refuse .reinit s
  else .next (initBody (Config.blInit oled) a cols rows font oled s)

end Sys2Proof.Machine
end

