-- ==== Sys2Proof/Machine/ControlOps.lean ====
section
/-! DEFINITION. The control requests (43_control_ops.md R160 to R180): clear, home, cursor address, display-control toggles,
shifts, entry mode, backlight, legacy stubs. -/

namespace Sys2Proof.Machine

/-- CLEAR (R160). -/
def execClear (s : State) : Host.Outcome State Fault Refusal :=
  guardSteady s (fun s => perform (clearEvents s) 0#16 s)

/-- HOME (R161). -/
def execHome (s : State) : Host.Outcome State Fault Refusal :=
  guardSteady s (fun s => perform (homeEvents s) 0#16 s)

/-- SETCUR (R162): ROW_OOB, before any event, where the row index after the clamp is past the table (60_exceptions.md
R204). -/
def execSetCursor (col row : Byte) (s : State) : Host.Outcome State Fault Refusal :=
  guardSteady s (fun s =>
    match cursorAddress s.rows s.rowtab col row with
    | none => refuse .rowOob s
    | some address => perform (commandEvents s.addr s.bl (setDdramByte address)) 0#16 s)

/-- The template of the display-control toggles (R163): write DCTRL, re-send the whole control byte. -/
def updateDisplayControl (dctrl : Byte) (s : State) : Host.Outcome State Fault Refusal :=
  perform (commandEvents s.addr s.bl (displayControlByte dctrl)) 0#16 (s.setDctrl dctrl)

/-- DISPLAY (R163). -/
def execDisplay (s : State) : Host.Outcome State Fault Refusal :=
  guardSteady s (fun s => updateDisplayControl (setFlag s.dctrl Config.codes.dOn) s)

/-- NODISPLAY (R164). -/
def execNoDisplay (s : State) : Host.Outcome State Fault Refusal :=
  guardSteady s (fun s => updateDisplayControl (clearFlag s.dctrl Config.codes.dOn) s)

/-- CURSOR (R165). -/
def execCursor (s : State) : Host.Outcome State Fault Refusal :=
  guardSteady s (fun s => updateDisplayControl (setFlag s.dctrl Config.codes.cOn) s)

/-- NOCURSOR (R166). -/
def execNoCursor (s : State) : Host.Outcome State Fault Refusal :=
  guardSteady s (fun s => updateDisplayControl (clearFlag s.dctrl Config.codes.cOn) s)

/-- BLINK (R167). -/
def execBlink (s : State) : Host.Outcome State Fault Refusal :=
  guardSteady s (fun s => updateDisplayControl (setFlag s.dctrl Config.codes.bOn) s)

/-- NOBLINK (R168). -/
def execNoBlink (s : State) : Host.Outcome State Fault Refusal :=
  guardSteady s (fun s => updateDisplayControl (clearFlag s.dctrl Config.codes.bOn) s)

/-- The template of the shifts (R169): a fixed command, no mirror register. -/
def sendShift (display right : Bool) (s : State) : Host.Outcome State Fault Refusal :=
  perform (commandEvents s.addr s.bl (shiftByte display right)) 0#16 s

/-- SCROLLL (R169). -/
def execScrollLeft (s : State) : Host.Outcome State Fault Refusal :=
  guardSteady s (fun s => sendShift true false s)

/-- SCROLLR (R170). -/
def execScrollRight (s : State) : Host.Outcome State Fault Refusal :=
  guardSteady s (fun s => sendShift true true s)

/-- MOVEL (R171). -/
def execMoveCursorLeft (s : State) : Host.Outcome State Fault Refusal :=
  guardSteady s (fun s => sendShift false false s)

/-- MOVER (R172). -/
def execMoveCursorRight (s : State) : Host.Outcome State Fault Refusal :=
  guardSteady s (fun s => sendShift false true s)

/-- The template of the entry-mode requests (R173): write EMODE, re-send the whole entry-mode byte. -/
def updateEntryMode (emode : Byte) (s : State) : Host.Outcome State Fault Refusal :=
  perform (commandEvents s.addr s.bl (entryModeByte emode)) 0#16 (s.setEmode emode)

/-- LTR (R173). -/
def execSetTextDirectionLtr (s : State) : Host.Outcome State Fault Refusal :=
  guardSteady s (fun s => updateEntryMode (setFlag s.emode Config.codes.eLeft) s)

/-- RTL (R174). -/
def execSetTextDirectionRtl (s : State) : Host.Outcome State Fault Refusal :=
  guardSteady s (fun s => updateEntryMode (clearFlag s.emode Config.codes.eLeft) s)

/-- AUTOSCROLL (R175). -/
def execAutoscroll (s : State) : Host.Outcome State Fault Refusal :=
  guardSteady s (fun s => updateEntryMode (setFlag s.emode Config.codes.eShift) s)

/-- NOAUTOSCROLL (R176). -/
def execNoAutoscroll (s : State) : Host.Outcome State Fault Refusal :=
  guardSteady s (fun s => updateEntryMode (clearFlag s.emode Config.codes.eShift) s)

/-- The template of the backlight requests (R177): write BL, emit the bare backlight write. -/
def updateBacklight (v : Bool) (s : State) : Host.Outcome State Fault Refusal :=
  perform (backlightEvents s.addr v) 0#16 (s.setBl v)

/-- BLON (R177). -/
def execBacklightOn (s : State) : Host.Outcome State Fault Refusal :=
  guardSteady s (fun s => updateBacklight true s)

/-- BLOFF (R178). -/
def execBacklightOff (s : State) : Host.Outcome State Fault Refusal :=
  guardSteady s (fun s => updateBacklight false s)

/-- SETBL (R179). -/
def execSetBacklight (v : Bool) (s : State) : Host.Outcome State Fault Refusal :=
  guardSteady s (fun s => updateBacklight v s)

/-- The legacy stubs (R180): accepted in every state; no event; RESULT 0. -/
def acceptStub (s : State) : Host.Outcome State Fault Refusal := .next (s.setResult 0#16)

/-- `legacy.status` (R180). -/
def execLegacyStatus (s : State) : Host.Outcome State Fault Refusal := acceptStub s

/-- `legacy.keypad` (R180). -/
def execLegacyKeypad (s : State) : Host.Outcome State Fault Refusal := acceptStub s

/-- `legacy.bargraph` (R180). -/
def execLegacyBargraph (s : State) : Host.Outcome State Fault Refusal := acceptStub s

/-- `legacy.contrast` (R180). -/
def execLegacyContrast (s : State) : Host.Outcome State Fault Refusal := acceptStub s

/-- `legacy.delay` (R180). -/
def execLegacyDelay (s : State) : Host.Outcome State Fault Refusal := acceptStub s

end Sys2Proof.Machine
end

