-- ==== Sys2Proof/Machine/Dispatch.lean ====
section
/-! DEFINITION. The meaning of each instruction: one arm per constructor of Instr (30_encoding.md R79). -/

namespace Sys2Proof.Machine

def exec (i : Instr) (s : State) : Host.Outcome State Fault Refusal :=
  match i with
  | .init a cols rows font oled => Sys2Proof.Machine.execInit a cols rows font oled s
  | .command b => Sys2Proof.Machine.execCommand b s
  | .writeChar b => Sys2Proof.Machine.execWriteChar b s
  | .writeString len => Sys2Proof.Machine.execWriteString len s
  | .clear => Sys2Proof.Machine.execClear s
  | .home => Sys2Proof.Machine.execHome s
  | .setCursor col row => Sys2Proof.Machine.execSetCursor col row s
  | .display => Sys2Proof.Machine.execDisplay s
  | .noDisplay => Sys2Proof.Machine.execNoDisplay s
  | .cursor => Sys2Proof.Machine.execCursor s
  | .noCursor => Sys2Proof.Machine.execNoCursor s
  | .blink => Sys2Proof.Machine.execBlink s
  | .noBlink => Sys2Proof.Machine.execNoBlink s
  | .scrollLeft => Sys2Proof.Machine.execScrollLeft s
  | .scrollRight => Sys2Proof.Machine.execScrollRight s
  | .moveCursorLeft => Sys2Proof.Machine.execMoveCursorLeft s
  | .moveCursorRight => Sys2Proof.Machine.execMoveCursorRight s
  | .setTextDirectionLtr => Sys2Proof.Machine.execSetTextDirectionLtr s
  | .setTextDirectionRtl => Sys2Proof.Machine.execSetTextDirectionRtl s
  | .autoscroll => Sys2Proof.Machine.execAutoscroll s
  | .noAutoscroll => Sys2Proof.Machine.execNoAutoscroll s
  | .defineCustomChar slot src => Sys2Proof.Machine.execDefineCustomChar slot src s
  | .backlightOn => Sys2Proof.Machine.execBacklightOn s
  | .backlightOff => Sys2Proof.Machine.execBacklightOff s
  | .setBacklight v => Sys2Proof.Machine.execSetBacklight v s
  | .legacyStatus => Sys2Proof.Machine.execLegacyStatus s
  | .legacyKeypad => Sys2Proof.Machine.execLegacyKeypad s
  | .legacyBargraph => Sys2Proof.Machine.execLegacyBargraph s
  | .legacyContrast => Sys2Proof.Machine.execLegacyContrast s
  | .legacyDelay => Sys2Proof.Machine.execLegacyDelay s

end Sys2Proof.Machine
end

