-- ==== Sys2Proof/Machine/Step.lean ====
section
/-! DEFINITION. One step of the block (00_scope.md R6): a held request goes on; else the next request word is taken from the
request port, decoded and performed as one atomic transition; else the block waits for the host. -/

namespace Sys2Proof.Machine

def step (s : State) : Host.Outcome State Fault Refusal :=
  match s.held with
  | some h => resumeHeld h s
  | none =>
    match s.takeRequest with
    | none => idle s
    | some (w, s') =>
      match decode w with
      | .ok i => exec i s'
      | .error _ => illegalRequest s'

/-- The state with the word where `step` takes its next request from (log 5). A request is one 32-bit word, whatever
`nbits` says (30_encoding.md R70). -/
def State.withFetchWord (s : State) (nbits w : Nat) : State := s.placeRequest (BitVec.ofNat 32 (w % 2 ^ nbits))

end Sys2Proof.Machine
end

