-- ==== Sys2Proof/Machine/Observe.lean ====
section
/-! DEFINITION. What can be read off a trace (00_scope.md R12): the expander's output byte (20_memory.md R58), the latch
events and the bytes they carry (R59, 40_frame_encoder.md R107), the transaction discipline (20_memory.md R52, R53,
70_reset_and_hazards.md R228), the shape of the pulses (40_frame_encoder.md R101), and the timing contract
(70_reset_and_hazards.md R224 to R229). No step of the block reads any of it. -/

namespace Sys2Proof.Machine

/-- The payloads of the Wr events, in order. -/
def busWrites : List Event → List Byte
  | [] => []
  | .wr b :: es => b :: busWrites es
  | _ :: es => busWrites es

/-- The last byte written; none before the first Wr, when EXP is unknown (R58). -/
def lastWrite (es : List Event) : Option Byte := (busWrites es).getLast?

/-- EXP, the expander's output byte (R58), under the reading that the transport delivers what it is sent (log 14). -/
def State.expander (s : State) : Option Byte := lastWrite s.trace

/-- Is the enable line high in this byte? -/
def enHigh (w : Wiring) (b : Byte) : Bool := (b &&& w.en) != 0#8

/-- A latched nibble with its register-select value (R59). -/
abbrev Latch := Nibble × Bool

/-- Does writing `b` after `prev` latch a nibble (R59): enable high, then low? -/
def isLatch (w : Wiring) (prev : Option Byte) (b : Byte) : Bool :=
  match prev with
  | none => false
  | some p => enHigh w p && !enHigh w b

/-- What writing `b` latches (R59): bits 7:4 and the register-select bit. -/
def latchOf (w : Wiring) (b : Byte) : Latch := (b.extractLsb' 4 4, (b &&& w.rs) != 0#8)

/-- The latch events of a sequence of writes, `prev` being the write before it. -/
def latchesFrom (w : Wiring) : Option Byte → List Byte → List Latch
  | _, [] => []
  | prev, b :: bs =>
    if isLatch w prev b then latchOf w b :: latchesFrom w (some b) bs else latchesFrom w (some b) bs

/-- The latch events of a trace (R59). -/
def latches (w : Wiring) (es : List Event) : List Latch := latchesFrom w none (busWrites es)

/-- The bytes that consecutive latches carry, upper nibble first (R55, 40_frame_encoder.md R107; log 17). -/
def pairNibbles : List Latch → List (Byte × Bool)
  | (hi, rs) :: (lo, _) :: ls => (hi ++ lo, rs) :: pairNibbles ls
  | _ => []

/-- The bytes a trace carries to the controller, each with its register-select value. -/
def bytesSent (w : Wiring) (es : List Event) : List (Byte × Bool) := pairNibbles (latches w es)

/-- The command bytes among them: register-select 0. -/
def commandBytes (w : Wiring) (es : List Event) : List Byte :=
  ((bytesSent w es).filter (fun p => !p.2)).map Prod.fst

/-- The data bytes among them: register-select 1. -/
def dataBytes (w : Wiring) (es : List Event) : List Byte :=
  ((bytesSent w es).filter (fun p => p.2)).map Prod.fst

/-- Where a trace stands in the transaction discipline (20_memory.md R52). -/
inductive BusPhase where
  /-- No transaction. -/
  | idle
  /-- Opened, nothing written yet. -/
  | opened
  /-- At least one byte written. -/
  | writing
  /-- Closed with `stop` false: the continuation must follow at once. -/
  | flushed
  deriving DecidableEq, Repr

/-- One event under the discipline of R52, R53 and R228, with `a` the only target; none where it breaks it. -/
def busPhase (a : BusAddr) : BusPhase → Event → Option BusPhase
  | .idle, .openTx x => if x = a then some .opened else none
  | .idle, .wait _ => some .idle
  | .opened, .wr _ => some .writing
  | .writing, .wr _ => some .writing
  | .writing, .closeTx true => some .idle
  | .writing, .closeTx false => some .flushed
  | .flushed, .openTx x => if x = a then some .opened else none
  | _, _ => none

/-- A sequence of events under the discipline. -/
def busRun (a : BusAddr) : BusPhase → List Event → Option BusPhase
  | p, [] => some p
  | p, e :: es =>
    match busPhase a p e with
    | none => none
    | some p' => busRun a p' es

/-- The pulses of a sequence of events are whole, where `due` is the low write that must come at once, if any. -/
def pulsesFrom (w : Wiring) : Option Byte → List Event → Bool
  | none, [] => true
  | some _, [] => false
  | none, .wr b :: es => pulsesFrom w (if enHigh w b then some (b &&& ~~~w.en) else none) es
  | some low, .wr b :: es => b == low && pulsesFrom w none es
  | none, _ :: es => pulsesFrom w none es
  | some _, _ :: _ => false

/-- Every write with the enable bit 1 is followed at once by the same byte with the enable bit 0 (40_frame_encoder.md R101,
R106). -/
def pulsesOk (w : Wiring) (es : List Event) : Bool := pulsesFrom w none es

/-- An event with the real time, in ns, at which it is delivered: `time(e)` of R229. -/
abbrev TimedEvent := Event × Nat

/-- R229 (a): after each Wait the next event is delivered at least `t` µs after the event before the Wait; `t0` is the time
of the event before (at the start, the time the request is issued, R223 (1); log 15). -/
def waitsHonoured : Nat → List TimedEvent → Bool
  | _, [] => true
  | t0, (.wait us, t) :: es =>
    (match es with
      | [] => true
      | (_, u) :: _ => decide (t0 + 1000 * us ≤ u)) && waitsHonoured t es
  | _, (_, t) :: es => waitsHonoured t es

/-- The writes of a timed trace, with their times. -/
def timedWrites : List TimedEvent → List (Byte × Nat)
  | [] => []
  | (.wr b, t) :: es => (b, t) :: timedWrites es
  | _ :: es => timedWrites es

/-- R229 (b), R224: in every pulse at least 450 ns between its two writes. -/
def pulseWidthsOk (w : Wiring) : List (Byte × Nat) → Bool
  | (b, t) :: (c, u) :: ws =>
    (!(enHigh w b && !enHigh w c) || decide (t + Config.tEnMinNs ≤ u)) && pulseWidthsOk w ((c, u) :: ws)
  | _ => true

/-- The latch events with their times. -/
def timedLatches (w : Wiring) : Option Byte → List (Byte × Nat) → List (Latch × Nat)
  | _, [] => []
  | prev, (b, t) :: ws =>
    if isLatch w prev b then (latchOf w b, t) :: timedLatches w (some b) ws else timedLatches w (some b) ws

/-- R229 (c), R225: at least 37 µs between consecutive latch events. -/
def settleOk : List (Latch × Nat) → Bool
  | (_, t) :: (l, u) :: ls => decide (t + Config.tCmdMinNs ≤ u) && settleOk ((l, u) :: ls)
  | _ => true

/-- A clear or home command byte (R226). -/
def isSlow (b : Byte) (rs : Bool) : Bool :=
  !rs && (b == Config.codes.clearDisplay || b == Config.codes.returnHome)

/-- R229 (d), R226: after the latch that completes a clear or a home command at least 2 ms before the next latch, those sent
through CMD included. -/
def slowOk : List (Latch × Nat) → Bool
  | ((hi, rs), _) :: ((lo, _), t) :: ls =>
    (match ls with
      | [] => true
      | (_, u) :: _ => !isSlow (hi ++ lo) rs || decide (t + Config.tSlowNs ≤ u)) && slowOk ls
  | _ => true

/-- The timing contract R229 of a timed trace whose first request is issued at `t0`. -/
def meetsTimingContract (w : Wiring) (t0 : Nat) (es : List TimedEvent) : Bool :=
  waitsHonoured t0 es && pulseWidthsOk w (timedWrites es) && settleOk (timedLatches w none (timedWrites es))
    && slowOk (timedLatches w none (timedWrites es))

/-- Each write comes at least `latency` ns after the one before (70_reset_and_hazards.md R224: the transport's per-byte
latency). -/
def bytesSpaced (latency : Nat) : List (Byte × Nat) → Bool
  | (_, t) :: (c, u) :: ws => decide (t + latency ≤ u) && bytesSpaced latency ((c, u) :: ws)
  | _ => true

end Sys2Proof.Machine
end

