-- ==== Sys2Proof/Safety.lean ====
section
/-! DEFINITION. The terms claims use: faulted and final states (60_exceptions.md R210, R212), the steady-state requests
(R200), what a machine state satisfies between steps, and agreement of two states outside the registers INIT writes. -/

namespace Sys2Proof

/-- The steady-state requests: all but INIT and LEGACY (60_exceptions.md R200). -/
def Instr.steady : Instr → Bool
  | .init _ _ _ _ _ => false
  | .legacyStatus | .legacyKeypad | .legacyBargraph | .legacyContrast | .legacyDelay => false
  | .command _ | .writeChar _ | .writeString _ | .defineCustomChar _ _ => true
  | .clear | .home | .setCursor _ _ => true
  | .display | .noDisplay | .cursor | .noCursor | .blink | .noBlink => true
  | .scrollLeft | .scrollRight | .moveCursorLeft | .moveCursorRight => true
  | .setTextDirectionLtr | .setTextDirectionRtl | .autoscroll | .noAutoscroll => true
  | .backlightOn | .backlightOff | .setBacklight _ => true

end Sys2Proof

namespace Sys2Proof.Machine

/-- A state in which a fault is recorded (60_exceptions.md R210): never final. -/
def State.faulted (s : State) : Prop := s.fset ≠ 0#5

/-- The premise of claims about the controller (R206, R210): no fault recorded, no transport failure. -/
def State.clean (s : State) : Prop := s.fset = 0#5 ∧ s.xfail = false

/-- A finished run: nothing held, no request left, no fault recorded. A held state is stuck, not finished (R212). -/
def State.final (s : State) : Prop := s.held = none ∧ s.requests = [] ∧ s.fset = 0#5

/-- Does the held request stand inside an open transaction? Only WSTR does (42_byte_ops.md R142). -/
def Held.midTransaction : Held → Bool
  | .writeString _ _ => true
  | .defineCustomChar _ => false

/-- Is there a held request inside an open transaction? -/
def State.midTransaction (s : State) : Bool := s.held.any Held.midTransaction

/-- Has the held request something left to read, and no more than it was issued with (R142, R144)? -/
def Held.sane : Held → Bool
  | .writeString len left => decide (1 ≤ left) && decide (left ≤ len.toNat)
  | .defineCustomChar left => decide (1 ≤ left) && decide (left ≤ Config.cgRows)

/-- What the registers satisfy between steps. -/
structure RegInv (s : State) : Prop where
  /-- SEQ is seen only as 0 before INIT and 9 after it (10_state.md R28). -/
  seq_legal : s.seq = seqUnpowered ∨ s.seq = seqHomed
  /-- Before INIT nothing has been emitted, so no acknowledge has come back, and nothing holds (20_memory.md R53). -/
  unpowered_quiet : s.seq = seqUnpowered → s.trace = [] ∧ s.xfail = false ∧ s.failed = false ∧ s.held = none
  /-- FAILED comes only from a negative acknowledge, which sets XFAIL too (10_state.md R31, R32). -/
  failed_xfail : s.failed = true → s.xfail = true
  /-- The row-start table is the one of COLS (10_state.md R22). -/
  geometry : s.seq = seqHomed → s.rowtab = RowTab.ofCols s.cols
  /-- FUNC is what INIT computed (10_state.md R23). -/
  func_value : s.seq = seqHomed → s.func = functionFlags s.rows s.font
  /-- Once INIT has written them, the bits of the mirror registers that are no named field are 0, and DL is 0 (10_state.md
  R23 to R25). Before that they hold no value (R38). -/
  func_bits : s.seq = seqHomed → s.func &&& 0xF3#8 = 0#8
  dctrl_bits : s.seq = seqHomed → s.dctrl &&& 0xF8#8 = 0#8
  emode_bits : s.seq = seqHomed → s.emode &&& 0xFC#8 = 0#8
  /-- Between requests no transaction is open and QF is 0 (10_state.md R35); a held WSTR is inside one. -/
  txopen_iff : s.txopen = s.midTransaction
  qf_zero : s.midTransaction = false → s.qf = 0#8
  /-- QF ranges over 0 to CAP_FRAMES, two frames a character (10_state.md R35). -/
  qf_range : s.qf.toNat ≤ Config.capFrames ∧ s.qf.toNat % 2 = 0
  /-- A held request has something left to do. -/
  held_sane : s.held.all Held.sane = true

/-- What the trace satisfies between steps. -/
structure TraceInv (s : State) : Prop where
  /-- Between requests every transaction is closed (20_memory.md R52, R53; 70_reset_and_hazards.md R228). -/
  discipline_idle : s.midTransaction = false → busRun s.addr .idle s.trace = some .idle
  /-- A held WSTR stands inside its transaction, empty only before its first character. -/
  discipline_mid : s.midTransaction = true →
    busRun s.addr .idle s.trace = some .writing ∨ (busRun s.addr .idle s.trace = some .opened ∧ s.qf = 0#8)
  /-- Every pulse is a high write and at once the low one (40_frame_encoder.md R101, R106). -/
  pulses : pulsesOk Config.wiring s.trace = true
  /-- The spare bit is 0 in every byte written (R106). -/
  spare_zero : (busWrites s.trace).all (fun b => (b &&& Config.wiring.spare) == 0#8) = true
  /-- Between requests the expander's enable line is low (R106). -/
  enable_low : ∀ b, s.expander = some b → enHigh Config.wiring b = false
  /-- The backlight bit of the last bus write equals BL (10_state.md R27). -/
  backlight_mirror : s.seq = seqHomed →
    ∃ b, s.expander = some b ∧ b &&& Config.wiring.blb = (if s.bl then Config.wiring.blb else 0#8)

/-- The two states agree on everything but the registers INIT writes and reset leaves without a value (10_state.md R38). -/
def AgreeOutsideHandle (s t : State) : Prop :=
  t = { s with
        addr := t.addr, cols := t.cols, rows := t.rows, font := t.font, oled := t.oled, rowtab := t.rowtab,
        func := t.func, dctrl := t.dctrl, emode := t.emode, bl := t.bl }

end Sys2Proof.Machine
end

