-- ==== Sys2Proof/Certificates/Slice0/Obligations.lean ====
section
/-! DEFINITION. The statements for the provers. The expected results are written here from the rules' own formulas
(30_encoding.md R83, the pseudocode of each rule), not from the model's frame encoder and emission; the parameters of
00_scope.md R7 appear under their names in `Config`. A statement whose docstring names a log entry rests on that choice. -/

namespace Sys2Proof.Claims

open Sys2Proof.Machine

/-- The four bus writes of a byte (30_encoding.md R83). -/
def fourWrites (bl rs : Bool) (b : Byte) : List Event :=
  let bits := (if rs then Config.wiring.rs else 0#8) ||| (if bl then Config.wiring.blb else 0#8)
  [ .wr ((b &&& 0xF0#8) ||| bits ||| Config.wiring.en), .wr ((b &&& 0xF0#8) ||| bits),
    .wr ((b <<< 4) ||| bits ||| Config.wiring.en), .wr ((b <<< 4) ||| bits) ]

/-- A command byte in a transaction of its own (40_frame_encoder.md R104). -/
def commandTx (s : State) (b : Byte) : List Event := .openTx s.addr :: fourWrites s.bl false b ++ [.closeTx true]

/-- A data byte in a transaction of its own (R104). -/
def dataTx (s : State) (b : Byte) : List Event := .openTx s.addr :: fourWrites s.bl true b ++ [.closeTx true]

/-- A power-up nibble in a transaction of its own (R102, R104): `n` has its low four bits 0. -/
def nibbleTx (a : BusAddr) (bl : Bool) (n : Byte) : List Event :=
  let blbit := if bl then Config.wiring.blb else 0#8
  [.openTx a, .wr (n ||| blbit ||| Config.wiring.en), .wr (n ||| blbit), .closeTx true]

/-- A state after the events `es` with `n` Closes, all transactions closed: the trace grows by `es`, XFAIL is set if one of
the next `n` acknowledges is negative (40_frame_encoder.md R108), `n` acknowledges are used up; nothing else changes. -/
def afterBus (s : State) (n : Nat) (es : List Event) : State :=
  { s with
    trace := s.trace ++ es, txopen := false, xfail := s.xfail || s.nackedIn n,
    acks := s.acks.drop n, closes := s.closes + n }

/-- A refused request: its FSET bit and nothing else (60_exceptions.md R210). -/
def refusedWith (bit : BitVec 5) (s : State) : State := { s with fset := s.fset ||| bit }

/-- The state accepts steady-state requests (60_exceptions.md R209). -/
def accepts (s : State) : Prop := s.failed = false ∧ s.seq = 9#4

/-- The request is refused with HANDLE_FAILED on a failed handle, else with NOT_INIT while `SEQ != 9`, else it runs to the
state `t` gives (60_exceptions.md R209). -/
def guardedRun (i : Instr) (t : State → State) : Prop :=
  ∀ s : State,
    (s.failed = true → exec i s = .next (refusedWith 0x10#5 s))
    ∧ (s.failed = false → s.seq ≠ 9#4 → exec i s = .next (refusedWith 0x02#5 s))
    ∧ (accepts s → exec i s = .next (t s))

/-- FUNC as 41_sequencer.md R122 gives it. -/
def initFunc (rows : Byte) (font : Bool) : Byte :=
  (if 1 < rows.toNat then Config.codes.f2Line else 0#8)
    ||| (if font = true ∧ (rows.toNat = 1 ∨ Config.fontOneLineOnly = false) then Config.codes.f5x10 else 0#8)

/-- The events of INIT, step by step (41_sequencer.md R123 to R130), on the state `s` that holds the new configuration. -/
def initEvents (s : State) : List Event :=
  [.wait 50000] ++ nibbleTx s.addr s.bl Config.nib8Bit ++ [.wait 4500]
    ++ nibbleTx s.addr s.bl Config.nib8Bit ++ [.wait 4500]
    ++ nibbleTx s.addr s.bl Config.nib8Bit ++ [.wait 150]
    ++ nibbleTx s.addr s.bl Config.nib4Bit
    ++ commandTx s (Config.codes.functionSet ||| s.func)
    ++ commandTx s (Config.codes.displayControl ||| Config.codes.dOn)
    ++ commandTx s Config.codes.clearDisplay ++ [.wait 2000]
    ++ (if s.oled then commandTx s (Config.codes.setDdramAddr ||| 0x00#8) else [])
    ++ commandTx s (Config.codes.entryModeSet ||| Config.codes.eLeft)
    ++ commandTx s Config.codes.returnHome ++ [.wait 2000]

/-- The registers an accepted INIT leaves, before its bus side: configuration (R121), mirrors (R122, R127, R129), SEQ 9,
RESULT 0. -/
def initRegs (a : BusAddr) (cols rows : Byte) (font oled : Bool) (s : State) : State :=
  { s with
    addr := a, cols := cols, rows := rows, font := font, oled := oled,
    rowtab := ⟨0x00#8, 0x40#8, cols, BitVec.ofNat 8 (0x40 + cols.toNat)⟩,
    bl := Config.blInit oled, func := initFunc rows font, dctrl := Config.codes.dOn, emode := Config.codes.eLeft,
    seq := 9#4, result := 0#16 }

/-- How many transactions INIT has (41_sequencer.md R131). -/
def initCloses (oled : Bool) : Nat := if oled then 10 else 9

/-- The state an accepted INIT leaves (41_sequencer.md R131): FAILED if one of its Closes was answered negatively. -/
def initDone (a : BusAddr) (cols rows : Byte) (font oled : Bool) (s : State) : State :=
  let r := initRegs a cols rows font oled s
  { afterBus r (initCloses oled) (initEvents r) with failed := s.failed || s.nackedIn (initCloses oled) }

/-- The characters of a WSTR cut into transactions of at most `k` (42_byte_ops.md R143 (b)); `fuel` is at least their
number. -/
def batches (k : Nat) : Nat → List Byte → List (List Byte)
  | 0, _ => []
  | _, [] => []
  | fuel + 1, cs => cs.take k :: batches k fuel (cs.drop k)

/-- The transactions of a WSTR, the last one still open: `Close(false), Open` between two of them (42_byte_ops.md R142). -/
def openBatches (s : State) : List (List Byte) → List Event
  | [] => [.openTx s.addr]
  | [b] => .openTx s.addr :: b.flatMap (fourWrites s.bl true)
  | b :: b' :: bs => .openTx s.addr :: b.flatMap (fourWrites s.bl true) ++ .closeTx false :: openBatches s (b' :: bs)

/-- `Open`s, `Close(stop)`s and `Wait` payloads of a list of events. -/
def opens (es : List Event) : Nat := es.countP (fun e => match e with | .openTx _ => true | _ => false)
def closesWith (stop : Bool) (es : List Event) : Nat := es.countP (fun e => e == .closeTx stop)
def waits (es : List Event) : List Nat := es.filterMap (fun e => match e with | .wait us => some us | _ => none)

/-- Two outcomes are the same next state but for what acknowledges decide: XFAIL, FAILED and the acknowledges left. -/
def sameButAcks (s t : State) : Prop :=
  t = { s with xfail := t.xfail, failed := t.failed, acks := t.acks, closes := t.closes }

/-- The row index SETCUR uses (43_control_ops.md R162). -/
def rowIndex (rows row : Byte) : Nat :=
  if row.toNat > rows.toNat then (rows.toNat + 255) % 256 else row.toNat

/-- The FSET bit of the check that refuses a decoded request, the checks in the order of 60_exceptions.md R209 (R202 to
R205); none where the request is accepted. -/
def refusalBit (i : Instr) (s : State) : Option (BitVec 5) :=
  match i with
  | .init _ _ _ _ _ => if s.seq = 0#4 then none else some 0x04#5
  | .setCursor _ row =>
    if s.failed then some 0x10#5 else if s.seq ≠ 9#4 then some 0x02#5
    else if 4 ≤ rowIndex s.rows row then some 0x08#5 else none
  | i => if i.steady = false then none else if s.failed then some 0x10#5 else if s.seq ≠ 9#4 then some 0x02#5 else none

/-- The mirror requests of 43_control_ops.md R181 and the backlight requests. -/
def repeatable : List Instr :=
  [.display, .noDisplay, .cursor, .noCursor, .blink, .noBlink, .setTextDirectionLtr, .setTextDirectionRtl,
    .autoscroll, .noAutoscroll, .backlightOn, .backlightOff, .setBacklight true, .setBacklight false]

end Sys2Proof.Claims

section Statements

open Sys2Proof Sys2Proof.Machine Sys2Proof.Claims

/-! ### Encoding -/

/-- Words of 95_test_vectors.md L2.1 to L2.7 decode as listed there. -/
def Obligations.SpecWordsDecode : Prop :=
  decode 0x08270210#32 = .ok (.init 0x27#7 16#8 2#8 false false)
  ∧ decode 0x09270210#32 = .ok (.init 0x27#7 16#8 2#8 false true)
  ∧ decode 0x08A70110#32 = .ok (.init 0x27#7 16#8 1#8 true false)
  ∧ decode 0x10000001#32 = .ok (.command 0x01#8) ∧ decode 0x18000041#32 = .ok (.writeChar 0x41#8)
  ∧ decode 0x20000009#32 = .ok (.writeString 9#16) ∧ decode 0x38000103#32 = .ok (.setCursor 3#8 1#8)
  ∧ decode 0x98000000#32 = .ok .setTextDirectionRtl ∧ decode 0xB0000107#32 = .ok (.defineCustomChar 7#8 true)
  ∧ decode 0xC8000001#32 = .ok (.setBacklight true) ∧ decode 0xD0000004#32 = .ok .legacyDelay
  ∧ decode 0x00000000#32 = .error .reservedOp ∧ decode 0xF8000000#32 = .error .reservedOp
  ∧ decode 0x28000001#32 = .error .mustBeZero ∧ decode 0x0A270210#32 = .error .mustBeZero
  ∧ decode 0xD0000005#32 = .error .legacyId

/-- No operand bit is dropped: decoding the encoding of any instruction gives it back (30_encoding.md R71 to R79). -/
def Obligations.DecodeEncodeRoundTrip : Prop := ∀ i : Instr, decode (encode i) = .ok i

/-- Each accepted word has one meaning: it is the encoding of the instruction it decodes to (30_encoding.md R81). -/
def Obligations.AcceptedWordIsItsEncoding : Prop := ∀ (w : ReqWord) (i : Instr), decode w = .ok i → encode i = w

/-- The decoder accepts exactly the words that R80 does not call illegal. -/
def Obligations.DecoderAcceptsExactlyLegalWords : Prop :=
  ∀ w : ReqWord, legalWord w = true ↔ ∃ i, decode w = .ok i

/-- Every word matches exactly the one row of R79 its instruction belongs to, and an illegal word matches none (R81). -/
def Obligations.EveryWordMatchesAtMostItsRow : Prop :=
  ∀ w : ReqWord,
    opcodeMap.filter (fun r => r.holds w) = (match decode w with | .ok i => [i.row] | .error _ => [])

/-- Every request line whose operands fit assembles, to the word with the fields of 30_encoding.md R93; one whose operands
do not fit does not. That the operands must fit is the model's reading (log 18). -/
def Obligations.RequestLinesEncodeTheirOperands : Prop :=
  let word (r : SourceRequest) : Option Nat := (assemble r).map (fun p => (encode p.1).toNat)
  (∀ r : SourceRequest, r.wf = (assemble r).isSome)
  ∧ (∀ a cols rows font oled, a < 128 → cols < 256 → rows < 256 → oled < 2 →
      word (.init a cols rows font (some oled))
        = some (2 ^ 27 + oled * 2 ^ 24 + (if font = 0 then 0 else 2 ^ 23) + a * 2 ^ 16 + rows * 2 ^ 8 + cols))
  ∧ (∀ b < 256, word (.command b) = some (2 * 2 ^ 27 + b) ∧ word (.writeChar b) = some (3 * 2 ^ 27 + b))
  ∧ (∀ len < 65536, word (.writeString len) = some (4 * 2 ^ 27 + len))
  ∧ (∀ col < 256, ∀ row < 256, word (.setCursor col row) = some (7 * 2 ^ 27 + row * 2 ^ 8 + col))
  ∧ (∀ slot < 256, ∀ pgm < 2, word (.defineCustomChar slot (some pgm)) = some (22 * 2 ^ 27 + pgm * 2 ^ 8 + slot))
  ∧ (∀ v, word (.setBacklight v) = some (25 * 2 ^ 27 + (if v = 0 then 0 else 1)))
  ∧ (∀ id ≤ 4, word (.legacy id) = some (26 * 2 ^ 27 + id))
  ∧ (∀ op, formatOf op = some .n → word (.plain op) = some (op * 2 ^ 27))

/-- The pseudo-requests stand for the requests of their expansions, a string for `writeString n` and its `n` bytes
(30_encoding.md R94). -/
def Obligations.PseudoRequestsExpand : Prop :=
  (∀ text : List Byte, text.length < 65536 →
      assemble (.writeText text) = some (.writeString (BitVec.ofNat 16 text.length), text))
  ∧ (∀ (text rest : List Byte), text.length < 65536 → 0#8 ∉ text →
      assemble (.writeBuffer (text ++ 0#8 :: rest)) = some (.writeString (BitVec.ofNat 16 text.length), text))
  ∧ assemble (.setTextDirection true) = some (.setTextDirectionLtr, [])
  ∧ assemble (.setTextDirection false) = some (.setTextDirectionRtl, [])
  ∧ assemble (.moveCursor false) = some (.moveCursorLeft, [])
  ∧ assemble (.moveCursor true) = some (.moveCursorRight, [])
  ∧ (∀ slot, assemble (.createChar slot) = assemble (.defineCustomChar slot (some 0)))
  ∧ (∀ slot, assemble (.createCharP slot) = assemble (.defineCustomChar slot (some 1)))
  ∧ (∀ slot, assemble (.defineCustomChar slot none) = assemble (.defineCustomChar slot (some 0)))
  ∧ (∀ a cols rows font, assemble (.init a cols rows font none) = assemble (.init a cols rows font (some 0)))

/-! ### The step -/

/-- With nothing held, the step takes the oldest request word off the request port and runs the instruction it decodes to
on the state without that word, and does nothing else. -/
def Obligations.StepRunsDecodedRequest : Prop :=
  ∀ (s : State) (w : ReqWord) (ws : List ReqWord) (i : Instr),
    s.held = none → s.requests = w :: ws → decode w = .ok i → step s = exec i { s with requests := ws }

/-- An illegal request word is refused with ILLEGAL_REQ, in every state, and has no other effect (30_encoding.md R80,
60_exceptions.md R201). -/
def Obligations.IllegalWordSetsOnlyItsFsetBit : Prop :=
  ∀ (s : State) (w : ReqWord) (ws : List ReqWord),
    s.held = none → s.requests = w :: ws → legalWord w = false →
      step s = .next (refusedWith 0x01#5 { s with requests := ws })

/-- With nothing held and no request issued the block waits for the host, unchanged. -/
def Obligations.IdleBlockWaits : Prop :=
  ∀ s : State, s.held = none → s.requests = [] → step s = .next s

/-- A request that holds on an empty DIN stream holds on, unchanged, and is not finished (20_memory.md R60,
60_exceptions.md R212). -/
def Obligations.HeldRequestHoldsWhileDinIsEmpty : Prop :=
  ∀ (s : State) (h : Held), s.held = some h → h.sane = true → s.din = [] → step s = .next s ∧ ¬ s.final

/-- A held request goes on, when the host supplies bytes, to exactly the state it would have reached had they been there
when it was issued (20_memory.md R60). The state in which a request holds is the model's (log 6). -/
def Obligations.LateDinBytesGiveTheSameRun : Prop :=
  ∀ (i : Instr) (s t : State) (bs : List Byte),
    ((∃ len, i = .writeString len) ∨ (∃ slot src, i = .defineCustomChar slot src)) →
    s.held = none → exec i s = .next t → t.held ≠ none →
      step (t.supplyDin bs) = exec i (s.supplyDin bs)

/-- Every step answers a next state: no request stops the block (60_exceptions.md R210). -/
def Obligations.BlockNeverStops : Prop := ∀ s : State, ∃ t, step s = .next t

/-! ### Frame encoder -/

/-- `buildFrame`, for every legal wiring: the nibble in bits 7:4, the register-select and backlight bits as given, the
enable and spare bits 0 (40_frame_encoder.md R100). -/
def Obligations.FrameBitsUnderEveryWiring : Prop :=
  ∀ (w : Wiring) (n : Byte) (rs bl : Bool), w.wf = true →
    (buildFrame w n rs bl) &&& 0xF0#8 = n &&& 0xF0#8
    ∧ (buildFrame w n rs bl) &&& w.rs = (if rs then w.rs else 0#8)
    ∧ (buildFrame w n rs bl) &&& w.blb = (if bl then w.blb else 0#8)
    ∧ (buildFrame w n rs bl) &&& w.en = 0#8
    ∧ (buildFrame w n rs bl) &&& w.spare = 0#8

/-- The four writes of a byte, for every legal wiring: each pulse is a high write and the same byte with EN clear, and the
byte and its register-select bit can be read back from the writes and from the latches (40_frame_encoder.md R106, R107). -/
def Obligations.SentByteReadsBackUnderEveryWiring : Prop :=
  ∀ (w : Wiring) (bl : Bool) (b : Byte) (rs : Bool), w.wf = true →
    ∃ w1 w2 w3 w4 : Byte,
      sendByte w bl b rs = [.wr w1, .wr w2, .wr w3, .wr w4]
      ∧ w1 = w2 ||| w.en ∧ w3 = w4 ||| w.en ∧ enHigh w w2 = false ∧ enHigh w w4 = false
      ∧ b = (w1 &&& 0xF0#8) ||| (w3 >>> 4)
      ∧ rs = ((w1 &&& w.rs) != 0#8) ∧ rs = ((w3 &&& w.rs) != 0#8)
      ∧ bytesSent w (sendByte w bl b rs) = [(b, rs)]

/-! ### INIT -/

/-- INIT on an unpowered handle writes the configuration, geometry, backlight and mirror registers, emits the power-up
sequence, ends at SEQ 9 with RESULT 0, and marks the handle failed if one of its Closes was answered negatively; on any
other handle it is refused with REINIT (41_sequencer.md R121, R122, R131). -/
def Obligations.InitRunsThePowerUpSequence : Prop :=
  ∀ (a : BusAddr) (cols rows : Byte) (font oled : Bool) (s : State),
    (s.seq = 0#4 → exec (.init a cols rows font oled) s = .next (initDone a cols rows font oled s))
    ∧ (s.seq ≠ 0#4 → exec (.init a cols rows font oled) s = .next (refusedWith 0x04#5 s))

/-- What an accepted INIT emits: 9 transactions (10 on OLED), each finalised, 28 bus writes (32 on OLED), and the six waits
in order (41_sequencer.md R131). -/
def Obligations.InitEventCounts : Prop :=
  ∀ (a : BusAddr) (cols rows : Byte) (font oled : Bool) (s t : State),
    s.seq = 0#4 → exec (.init a cols rows font oled) s = .next t →
      ∃ es, t.trace = s.trace ++ es
        ∧ opens es = (if oled then 10 else 9) ∧ closesWith true es = (if oled then 10 else 9)
        ∧ closesWith false es = 0 ∧ (busWrites es).length = (if oled then 32 else 28)
        ∧ waits es = [50000, 4500, 4500, 150, 2000, 2000]

/-- An INIT during which a Close is answered negatively emits the same sequence, marks the handle failed, and after it every
steady-state request is refused with HANDLE_FAILED and every INIT with REINIT (41_sequencer.md R133). -/
def Obligations.FailedInitIsFatalToTheHandle : Prop :=
  ∀ (a : BusAddr) (cols rows : Byte) (font oled : Bool) (s : State),
    s.seq = 0#4 → s.nackedIn (initCloses oled) = true →
      ∃ t, exec (.init a cols rows font oled) s = .next t
        ∧ t.trace = s.trace ++ initEvents (initRegs a cols rows font oled s)
        ∧ t.failed = true ∧ t.ready = false
        ∧ (∀ i : Instr, i.steady = true → exec i t = .next (refusedWith 0x10#5 t))
        ∧ (∀ a' cols' rows' font' oled', exec (.init a' cols' rows' font' oled') t = .next (refusedWith 0x04#5 t))

/-! ### Byte requests -/

/-- CMD sends its byte as a command and changes no mirror register (42_byte_ops.md R140). -/
def Obligations.CommandSendsItsByte : Prop :=
  ∀ b : Byte, guardedRun (.command b) (fun s => { afterBus s 1 (commandTx s b) with result := 0#16 })

/-- WRITE sends its byte as data; RESULT is 1 whatever the acknowledge (42_byte_ops.md R141). -/
def Obligations.WriteCharSendsItsByteAsData : Prop :=
  ∀ b : Byte, guardedRun (.writeChar b) (fun s => { afterBus s 1 (dataTx s b) with result := 1#16 })

/-- WSTR of length 0 emits nothing and sets RESULT to 0; on a handle that does not accept requests WSTR of any length is
refused like the others (42_byte_ops.md R142). -/
def Obligations.EmptyStringEmitsNothing : Prop :=
  guardedRun (.writeString 0#16) (fun s => { s with result := 0#16 })
  ∧ ∀ (len : Half) (s : State),
      (s.failed = true → exec (.writeString len) s = .next (refusedWith 0x10#5 s))
      ∧ (s.failed = false → s.seq ≠ 9#4 → exec (.writeString len) s = .next (refusedWith 0x02#5 s))

/-- WSTR with all its bytes on DIN sends them, in order, as data, in transactions of CAP_FRAMES / 2 characters, the last one
finalised; RESULT is LEN (42_byte_ops.md R142, R143). CAP_FRAMES is any even number from 2 to 254 (log 3). -/
def Obligations.WriteStringSendsItsBatches : Prop :=
  ∀ (len : Half) (s : State), accepts s → len ≠ 0#16 → len.toNat ≤ s.din.length →
    exec (.writeString len) s
      = .next
        (let bs := batches (Config.capFrames / 2) len.toNat (s.din.take len.toNat)
        { afterBus s bs.length (openBatches s bs ++ [.closeTx true]) with
          din := s.din.drop len.toNat, qf := 0#8, held := none, result := len })

/-- WSTR whose bytes are not all on DIN sends those that are and holds inside the open transaction, RESULT unchanged
(42_byte_ops.md R142, 20_memory.md R60). QF is then the number of frames of the last transaction.
How a held request stands in State is the model's (log 6). -/
def Obligations.WriteStringHoldsInsideItsTransaction : Prop :=
  ∀ (len : Half) (s : State), accepts s → s.din.length < len.toNat →
    exec (.writeString len) s
      = .next
        (let bs := batches (Config.capFrames / 2) len.toNat s.din
        { afterBus s (bs.length - 1) (openBatches s bs) with
          din := [], txopen := true, qf := BitVec.ofNat 8 (2 * (bs.getLastD []).length),
          held := some (.writeString len (len.toNat - s.din.length)) })

/-- The batching properties of WSTR: for n characters `ceil(2n / CAP_FRAMES)` Opens, one fewer `Close(false)`, one
`Close(true)`, no Wait, each character exactly once and in order as data, no command byte (42_byte_ops.md R143). -/
def Obligations.WriteStringBatchingCounts : Prop :=
  ∀ (len : Half) (s : State), accepts s → len ≠ 0#16 → len.toNat ≤ s.din.length →
    ∃ t es, exec (.writeString len) s = .next t ∧ t.trace = s.trace ++ es
      ∧ opens es = (2 * len.toNat + Config.capFrames - 1) / Config.capFrames
      ∧ closesWith false es = opens es - 1 ∧ closesWith true es = 1 ∧ waits es = []
      ∧ dataBytes Config.wiring es = s.din.take len.toNat ∧ commandBytes Config.wiring es = []
      ∧ (busWrites es).length = 4 * len.toNat

/-- DEFCHAR selects the slot modulo 8 and sends eight DIN bytes as data, each in a transaction of its own, whatever SRC is
(42_byte_ops.md R144); with fewer bytes on DIN it sends those and holds (20_memory.md R60, 60_exceptions.md R212). How a held
request stands in State is the model's (log 6). -/
def Obligations.DefineCustomCharSendsEightRows : Prop :=
  ∀ (slot : Byte) (src : Bool) (s : State),
    let select := commandTx s (Config.codes.setCgramAddr ||| BitVec.ofNat 8 (8 * (slot.toNat % 8)))
    (s.failed = true → exec (.defineCustomChar slot src) s = .next (refusedWith 0x10#5 s))
    ∧ (s.failed = false → s.seq ≠ 9#4 → exec (.defineCustomChar slot src) s = .next (refusedWith 0x02#5 s))
    ∧ (accepts s → 8 ≤ s.din.length →
        exec (.defineCustomChar slot src) s
          = .next { afterBus s 9 (select ++ (s.din.take 8).flatMap (dataTx s)) with
              din := s.din.drop 8, held := none, result := 0#16 })
    ∧ (accepts s → s.din.length < 8 →
        exec (.defineCustomChar slot src) s
          = .next { afterBus s (s.din.length + 1) (select ++ s.din.flatMap (dataTx s)) with
              din := [], held := some (.defineCustomChar (8 - s.din.length)) })

/-! ### Control requests -/

/-- CLEAR sends the clear command and its 2000 µs wait, and on OLED then re-homes the cursor to (0,0) (43_control_ops.md
R160). -/
def Obligations.ClearSettlesThenRehomesOnOled : Prop :=
  guardedRun .clear (fun s =>
    { afterBus s (if s.oled then 2 else 1)
        (commandTx s Config.codes.clearDisplay ++ [.wait 2000]
          ++ (if s.oled then commandTx s (Config.codes.setDdramAddr ||| s.rowtab.r0) else []))
      with result := 0#16 })

/-- HOME sends the home command and its 2000 µs wait, OLED or not (43_control_ops.md R161). -/
def Obligations.HomeSettles : Prop :=
  guardedRun .home (fun s =>
    { afterBus s 1 (commandTx s Config.codes.returnHome ++ [.wait 2000]) with result := 0#16 })

/-- SETCUR clamps the row on `row > ROWS` only, to `ROWS - 1` modulo 256; a row index of 4 or more is refused with ROW_OOB;
else the address is `ROWTAB[r] + COL` modulo 256, sent in one set-DDRAM command (43_control_ops.md R162, 60_exceptions.md
R204). -/
def Obligations.SetCursorClampsRowAndSendsAddress : Prop :=
  ∀ (col row : Byte) (s : State),
    let r := rowIndex s.rows row
    (s.failed = true → exec (.setCursor col row) s = .next (refusedWith 0x10#5 s))
    ∧ (s.failed = false → s.seq ≠ 9#4 → exec (.setCursor col row) s = .next (refusedWith 0x02#5 s))
    ∧ (accepts s → 4 ≤ r → exec (.setCursor col row) s = .next (refusedWith 0x08#5 s))
    ∧ (∀ start, accepts s → [s.rowtab.r0, s.rowtab.r1, s.rowtab.r2, s.rowtab.r3][r]? = some start →
        exec (.setCursor col row) s
          = .next { afterBus s 1
              (commandTx s (Config.codes.setDdramAddr ||| BitVec.ofNat 8 (start.toNat + col.toNat))) with
              result := 0#16 })

/-- The clamp's off-by-one, kept: row `ROWS + 1` does what row `ROWS - 1` does, and row `ROWS` is not clamped, so that it is
refused where ROWS is 4 or more and uses `ROWTAB[ROWS]` where it is less (43_control_ops.md R162 (a) to (c)). -/
def Obligations.CursorRowClampIsOffByOne : Prop :=
  ∀ (col : Byte) (s : State), accepts s →
    (1 ≤ s.rows.toNat → s.rows.toNat ≤ 254 →
      exec (.setCursor col (s.rows + 1#8)) s = exec (.setCursor col (s.rows - 1#8)) s)
    ∧ (4 ≤ s.rows.toNat → exec (.setCursor col s.rows) s = .next (refusedWith 0x08#5 s))
    ∧ (∀ start, [s.rowtab.r0, s.rowtab.r1, s.rowtab.r2, s.rowtab.r3][s.rows.toNat]? = some start →
        exec (.setCursor col s.rows) s
          = .next { afterBus s 1 (commandTx s (Config.codes.setDdramAddr ||| (start + col))) with result := 0#16 })

/-- The six display-control toggles: set or clear one flag of DCTRL, re-send the whole control byte, RESULT 0; nothing else
changes (43_control_ops.md R163 to R168). -/
def Obligations.DisplayTogglesResendControlByte : Prop :=
  let toggled (i : Instr) (value : Byte → Byte) : Prop :=
    guardedRun i (fun s =>
      { afterBus s 1 (commandTx s (Config.codes.displayControl ||| value s.dctrl)) with
        dctrl := value s.dctrl, result := 0#16 })
  toggled .display (fun d => d ||| Config.codes.dOn) ∧ toggled .noDisplay (fun d => d &&& ~~~Config.codes.dOn)
  ∧ toggled .cursor (fun d => d ||| Config.codes.cOn) ∧ toggled .noCursor (fun d => d &&& ~~~Config.codes.cOn)
  ∧ toggled .blink (fun d => d ||| Config.codes.bOn) ∧ toggled .noBlink (fun d => d &&& ~~~Config.codes.bOn)

/-- The four shifts: one fixed command, no mirror register (43_control_ops.md R169 to R172). -/
def Obligations.ShiftsSendOneFixedCommand : Prop :=
  let shifted (i : Instr) (bits : Byte) : Prop :=
    guardedRun i (fun s => { afterBus s 1 (commandTx s (Config.codes.cursorShift ||| bits)) with result := 0#16 })
  shifted .scrollLeft Config.codes.shDisplay
  ∧ shifted .scrollRight (Config.codes.shDisplay ||| Config.codes.shRight)
  ∧ shifted .moveCursorLeft 0#8 ∧ shifted .moveCursorRight Config.codes.shRight

/-- The four entry-mode requests: set or clear one flag of EMODE, re-send the whole entry-mode byte (43_control_ops.md R173
to R176). -/
def Obligations.EntryModeRequestsResendModeByte : Prop :=
  let moded (i : Instr) (value : Byte → Byte) : Prop :=
    guardedRun i (fun s =>
      { afterBus s 1 (commandTx s (Config.codes.entryModeSet ||| value s.emode)) with
        emode := value s.emode, result := 0#16 })
  moded .setTextDirectionLtr (fun e => e ||| Config.codes.eLeft)
  ∧ moded .setTextDirectionRtl (fun e => e &&& ~~~Config.codes.eLeft)
  ∧ moded .autoscroll (fun e => e ||| Config.codes.eShift)
  ∧ moded .noAutoscroll (fun e => e &&& ~~~Config.codes.eShift)

/-- The backlight requests: BL takes the value and one bare byte with the backlight flag only is written (43_control_ops.md
R177 to R179, 40_frame_encoder.md R105). -/
def Obligations.BacklightRequestsWriteOneBareByte : Prop :=
  let lit (i : Instr) (v : Bool) : Prop :=
    guardedRun i (fun s =>
      { afterBus s 1 [.openTx s.addr, .wr (if v then Config.wiring.blb else 0#8), .closeTx true] with
        bl := v, result := 0#16 })
  lit .backlightOn true ∧ lit .backlightOff false ∧ ∀ v, lit (.setBacklight v) v

/-- The legacy stubs are accepted in every state, emit nothing and set RESULT to 0 (43_control_ops.md R180). -/
def Obligations.LegacyStubsOnlyClearResult : Prop :=
  ∀ i ∈ [Instr.legacyStatus, .legacyKeypad, .legacyBargraph, .legacyContrast, .legacyDelay],
    ∀ s : State, exec i s = .next { s with result := 0#16 }

/-- A mirror or backlight request issued twice in a row emits the same events twice and leaves the mirror registers as the
first left them (43_control_ops.md R181). -/
def Obligations.MirrorRequestsAreIdempotent : Prop :=
  ∀ i ∈ repeatable, ∀ s : State, accepts s →
    ∃ t u es, exec i s = .next t ∧ exec i t = .next u
      ∧ t.trace = s.trace ++ es ∧ u.trace = t.trace ++ es
      ∧ u.dctrl = t.dctrl ∧ u.emode = t.emode ∧ u.bl = t.bl ∧ u.func = t.func

/-- After an accepted steady-state request other than CMD, the display-control and entry-mode bytes it sent as commands are
those of DCTRL and EMODE as it left them, and a register whose byte it did not send is unchanged (10_state.md R27). A
command byte is told apart by its leading bits under the default CODES (log 10). -/
def Obligations.MirrorsMatchTheBytesSent : Prop :=
  ∀ (i : Instr) (s t : State) (es : List Event),
    i.steady = true → (∀ b, i ≠ .command b) → accepts s → s.dctrl &&& 0xF8#8 = 0#8 → s.emode &&& 0xFC#8 = 0#8 →
    exec i s = .next t → t.trace = s.trace ++ es →
      (∀ b ∈ commandBytes Config.wiring es,
        (b &&& 0xF8#8 = 0x08#8 → b = Config.codes.displayControl ||| t.dctrl)
        ∧ (b &&& 0xFC#8 = 0x04#8 → b = Config.codes.entryModeSet ||| t.emode))
      ∧ ((∀ b ∈ commandBytes Config.wiring es, b &&& 0xF8#8 ≠ 0x08#8) → t.dctrl = s.dctrl)
      ∧ ((∀ b ∈ commandBytes Config.wiring es, b &&& 0xFC#8 ≠ 0x04#8) → t.emode = s.emode)

/-! ### Refusals, status, reset -/

/-- Every steady-state request is refused with HANDLE_FAILED on a failed handle, and else with NOT_INIT while SEQ is not 9,
with no other effect (60_exceptions.md R202, R205). -/
def Obligations.SteadyRequestsNeedAReadyHandle : Prop :=
  ∀ (i : Instr) (s : State), i.steady = true →
    (s.failed = true → exec i s = .next (refusedWith 0x10#5 s))
    ∧ (s.failed = false → s.seq ≠ 9#4 → exec i s = .next (refusedWith 0x02#5 s))

/-- Every request that a check refuses changes nothing but the FSET bit of that check's code, also where the bit is 1
already; every other request is performed and leaves FSET as it was (60_exceptions.md R209, R210). -/
def Obligations.RefusedRequestChangesOnlyFset : Prop :=
  ∀ (i : Instr) (s : State),
    (∀ bit, refusalBit i s = some bit → exec i s = .next (refusedWith bit s))
    ∧ (refusalBit i s = none → ∃ t, exec i s = .next t ∧ t.fset = s.fset)

/-- Nothing clears a bit of FSET, XFAIL or FAILED (60_exceptions.md R211). -/
def Obligations.FaultBitsAreSticky : Prop :=
  ∀ s t : State, step s = .next t →
    s.fset &&& t.fset = s.fset ∧ (s.xfail = true → t.xfail = true) ∧ (s.failed = true → t.failed = true)

/-- Every request only adds events to the trace; an acknowledge decides XFAIL, and in an accepted INIT FAILED, and nothing
else: any other request, an INIT refused because SEQ is not 0 too, leaves FAILED as it was, and with other acknowledges every
request emits the same events and leaves the same state otherwise (40_frame_encoder.md R108, 60_exceptions.md R206). The list
of acknowledges to come is the model's (log 4). -/
def Obligations.AcknowledgesDecideOnlyXfailAndFailed : Prop :=
  ∀ (i : Instr) (s t : State), exec i s = .next t →
    (∃ es, t.trace = s.trace ++ es ∧ t.xfail = (s.xfail || s.nackedIn (closeCount es))
      ∧ ((∀ a cols rows font oled, i ≠ .init a cols rows font oled) → t.failed = s.failed)
      ∧ (s.seq ≠ 0#4 → t.failed = s.failed)
      ∧ (∀ a cols rows font oled, i = .init a cols rows font oled → s.seq = 0#4 →
          t.failed = (s.failed || s.nackedIn (closeCount es))))
    ∧ ∀ (as : List Bool) (n : Nat), ∃ u, exec i { s with acks := as, closes := n } = .next u ∧ sameButAcks t u

/-- STATUS as the host reads it, field by field, with READY derived and the reserved bits 0 (10_state.md R29, R30). -/
def Obligations.StatusReadsItsFields : Prop :=
  ∀ s : State,
    s.status.extractLsb' 0 4 = s.seq ∧ (s.status.getLsbD 4 = true ↔ s.seq = 9#4 ∧ s.failed = false)
    ∧ s.status.getLsbD 5 = s.xfail ∧ s.status.getLsbD 6 = s.failed ∧ s.status.getLsbD 7 = false
    ∧ s.status.extractLsb' 8 5 = s.fset ∧ s.status.extractLsb' 13 3 = 0#3

/-- What reset leaves, for the registers to which the spec gives a reset value (10_state.md R38). -/
def Obligations.ResetLeavesTheStatedValues : Prop :=
  State.reset.seq = 0#4 ∧ State.reset.status = 0x0000#16 ∧ State.reset.result = 0x0000#16
  ∧ State.reset.txopen = false ∧ State.reset.qf = 0#8 ∧ State.reset.trace = []

/-- Before INIT nothing depends on the registers reset leaves without a value: two states that differ only there step to
states that differ only there, and to the same state once INIT has run. So the values the model gives them at reset (log 1)
cannot be observed. -/
def Obligations.RegistersBeforeInitAreUnobservable : Prop :=
  ∀ s s' : State, s.seq = 0#4 → s.held = none → AgreeOutsideHandle s s' →
    ∃ t t', step s = .next t ∧ step s' = .next t' ∧ AgreeOutsideHandle t t' ∧ (t.seq ≠ 0#4 → t = t')

/-! ### Invariants and whole-machine rules -/

/-- Reset meets both invariants, and so does every state that differs from it only in the registers to which the spec gives
no reset value (10_state.md R38): that reset meets them does not rest on the zeros of log 1. -/
def Obligations.ResetMeetsTheInvariants : Prop :=
  (RegInv State.reset ∧ TraceInv State.reset)
  ∧ ∀ s : State, AgreeOutsideHandle State.reset s → RegInv s ∧ TraceInv s

/-- Every step keeps the register invariant: SEQ 0 or 9, the row table that of COLS, after INIT the unnamed mirror bits 0, TXOPEN
and QF 0 between requests, and the rest of `RegInv` (10_state.md R22 to R28, R35). -/
def Obligations.StepKeepsTheRegisterInvariant : Prop :=
  ∀ s t : State, RegInv s → step s = .next t → RegInv t

/-- Every step keeps the trace invariant: transactions opened at ADDR and closed, no Wait inside one, every pulse whole, the
spare bit 0, the enable line low and the backlight bit equal to BL between requests (20_memory.md R52, R53,
40_frame_encoder.md R106, 10_state.md R27, 70_reset_and_hazards.md R228). -/
def Obligations.StepKeepsTheTraceInvariant : Prop :=
  ∀ s t : State, RegInv s → TraceInv s → step s = .next t → TraceInv t

/-- SEQ changes only from 0 to 9, and only when INIT is performed (10_state.md R28). -/
def Obligations.OnlyInitAdvancesTheSequencer : Prop :=
  (∀ s t : State, step s = .next t → t.seq = s.seq ∨ (s.seq = 0#4 ∧ t.seq = 9#4))
  ∧ ∀ (i : Instr) (s t : State), (∀ a c r f o, i ≠ .init a c r f o) → exec i s = .next t → t.seq = s.seq

/-- Once SEQ has left 0, no step changes a configuration register, the row table or FUNC (10_state.md R21 to R23). -/
def Obligations.ConfigurationIsWrittenOnce : Prop :=
  ∀ s t : State, s.seq ≠ 0#4 → step s = .next t →
    t.addr = s.addr ∧ t.cols = s.cols ∧ t.rows = s.rows ∧ t.font = s.font ∧ t.oled = s.oled
    ∧ t.rowtab = s.rowtab ∧ t.func = s.func

/-- Which requests may write which mirror register (the access table 10_state.md R37): DCTRL only INIT and the toggles,
EMODE only INIT and the entry-mode requests, BL only INIT and the backlight requests. -/
def Obligations.MirrorsAreWrittenOnlyByTheirRequests : Prop :=
  ∀ (i : Instr) (s t : State), (∀ a c r f o, i ≠ .init a c r f o) → exec i s = .next t →
    (i ∉ [Instr.display, .noDisplay, .cursor, .noCursor, .blink, .noBlink] → t.dctrl = s.dctrl)
    ∧ (i ∉ [Instr.setTextDirectionLtr, .setTextDirectionRtl, .autoscroll, .noAutoscroll] → t.emode = s.emode)
    ∧ (i ∉ [Instr.backlightOn, .backlightOff, .setBacklight true, .setBacklight false] → t.bl = s.bl)

/-- The command settle time rests on bus latency: where each bus write comes at least `latency` after the one before, and
twice `latency` is at least 37 µs, every pair of consecutive latches is at least 37 µs apart; and where `latency` is at
least 450 ns every pulse is wide enough (70_reset_and_hazards.md R224, R225). The latency is the caller's (log 15). -/
def Obligations.ByteLatencyMeetsPulseAndSettleTimes : Prop :=
  ∀ (w : Wiring) (latency : Nat) (es : List TimedEvent), bytesSpaced latency (timedWrites es) = true →
    (450 ≤ latency → pulseWidthsOk w (timedWrites es) = true)
    ∧ (37000 ≤ 2 * latency → settleOk (timedLatches w none (timedWrites es)) = true)

end Statements
end

