-- ==== Sys2Proof/Laws/State.lean ====
section
/-! SUPPORT. One lemma per field of State and update: what each update leaves in each field. -/

namespace Sys2Proof.Machine

variable (s : State)

@[simp] theorem State.setFunc_addr (v : Byte) : (s.setFunc v).addr = s.addr := rfl
@[simp] theorem State.setFunc_cols (v : Byte) : (s.setFunc v).cols = s.cols := rfl
@[simp] theorem State.setFunc_rows (v : Byte) : (s.setFunc v).rows = s.rows := rfl
@[simp] theorem State.setFunc_font (v : Byte) : (s.setFunc v).font = s.font := rfl
@[simp] theorem State.setFunc_oled (v : Byte) : (s.setFunc v).oled = s.oled := rfl
@[simp] theorem State.setFunc_rowtab (v : Byte) : (s.setFunc v).rowtab = s.rowtab := rfl
@[simp] theorem State.setFunc_func (v : Byte) : (s.setFunc v).func = v := rfl
@[simp] theorem State.setFunc_dctrl (v : Byte) : (s.setFunc v).dctrl = s.dctrl := rfl
@[simp] theorem State.setFunc_emode (v : Byte) : (s.setFunc v).emode = s.emode := rfl
@[simp] theorem State.setFunc_bl (v : Byte) : (s.setFunc v).bl = s.bl := rfl
@[simp] theorem State.setFunc_seq (v : Byte) : (s.setFunc v).seq = s.seq := rfl
@[simp] theorem State.setFunc_xfail (v : Byte) : (s.setFunc v).xfail = s.xfail := rfl
@[simp] theorem State.setFunc_failed (v : Byte) : (s.setFunc v).failed = s.failed := rfl
@[simp] theorem State.setFunc_fset (v : Byte) : (s.setFunc v).fset = s.fset := rfl
@[simp] theorem State.setFunc_result (v : Byte) : (s.setFunc v).result = s.result := rfl
@[simp] theorem State.setFunc_txopen (v : Byte) : (s.setFunc v).txopen = s.txopen := rfl
@[simp] theorem State.setFunc_qf (v : Byte) : (s.setFunc v).qf = s.qf := rfl
@[simp] theorem State.setFunc_requests (v : Byte) : (s.setFunc v).requests = s.requests := rfl
@[simp] theorem State.setFunc_din (v : Byte) : (s.setFunc v).din = s.din := rfl
@[simp] theorem State.setFunc_held (v : Byte) : (s.setFunc v).held = s.held := rfl
@[simp] theorem State.setFunc_acks (v : Byte) : (s.setFunc v).acks = s.acks := rfl
@[simp] theorem State.setFunc_closes (v : Byte) : (s.setFunc v).closes = s.closes := rfl
@[simp] theorem State.setFunc_trace (v : Byte) : (s.setFunc v).trace = s.trace := rfl

@[simp] theorem State.setDctrl_addr (v : Byte) : (s.setDctrl v).addr = s.addr := rfl
@[simp] theorem State.setDctrl_cols (v : Byte) : (s.setDctrl v).cols = s.cols := rfl
@[simp] theorem State.setDctrl_rows (v : Byte) : (s.setDctrl v).rows = s.rows := rfl
@[simp] theorem State.setDctrl_font (v : Byte) : (s.setDctrl v).font = s.font := rfl
@[simp] theorem State.setDctrl_oled (v : Byte) : (s.setDctrl v).oled = s.oled := rfl
@[simp] theorem State.setDctrl_rowtab (v : Byte) : (s.setDctrl v).rowtab = s.rowtab := rfl
@[simp] theorem State.setDctrl_func (v : Byte) : (s.setDctrl v).func = s.func := rfl
@[simp] theorem State.setDctrl_dctrl (v : Byte) : (s.setDctrl v).dctrl = v := rfl
@[simp] theorem State.setDctrl_emode (v : Byte) : (s.setDctrl v).emode = s.emode := rfl
@[simp] theorem State.setDctrl_bl (v : Byte) : (s.setDctrl v).bl = s.bl := rfl
@[simp] theorem State.setDctrl_seq (v : Byte) : (s.setDctrl v).seq = s.seq := rfl
@[simp] theorem State.setDctrl_xfail (v : Byte) : (s.setDctrl v).xfail = s.xfail := rfl
@[simp] theorem State.setDctrl_failed (v : Byte) : (s.setDctrl v).failed = s.failed := rfl
@[simp] theorem State.setDctrl_fset (v : Byte) : (s.setDctrl v).fset = s.fset := rfl
@[simp] theorem State.setDctrl_result (v : Byte) : (s.setDctrl v).result = s.result := rfl
@[simp] theorem State.setDctrl_txopen (v : Byte) : (s.setDctrl v).txopen = s.txopen := rfl
@[simp] theorem State.setDctrl_qf (v : Byte) : (s.setDctrl v).qf = s.qf := rfl
@[simp] theorem State.setDctrl_requests (v : Byte) : (s.setDctrl v).requests = s.requests := rfl
@[simp] theorem State.setDctrl_din (v : Byte) : (s.setDctrl v).din = s.din := rfl
@[simp] theorem State.setDctrl_held (v : Byte) : (s.setDctrl v).held = s.held := rfl
@[simp] theorem State.setDctrl_acks (v : Byte) : (s.setDctrl v).acks = s.acks := rfl
@[simp] theorem State.setDctrl_closes (v : Byte) : (s.setDctrl v).closes = s.closes := rfl
@[simp] theorem State.setDctrl_trace (v : Byte) : (s.setDctrl v).trace = s.trace := rfl

@[simp] theorem State.setEmode_addr (v : Byte) : (s.setEmode v).addr = s.addr := rfl
@[simp] theorem State.setEmode_cols (v : Byte) : (s.setEmode v).cols = s.cols := rfl
@[simp] theorem State.setEmode_rows (v : Byte) : (s.setEmode v).rows = s.rows := rfl
@[simp] theorem State.setEmode_font (v : Byte) : (s.setEmode v).font = s.font := rfl
@[simp] theorem State.setEmode_oled (v : Byte) : (s.setEmode v).oled = s.oled := rfl
@[simp] theorem State.setEmode_rowtab (v : Byte) : (s.setEmode v).rowtab = s.rowtab := rfl
@[simp] theorem State.setEmode_func (v : Byte) : (s.setEmode v).func = s.func := rfl
@[simp] theorem State.setEmode_dctrl (v : Byte) : (s.setEmode v).dctrl = s.dctrl := rfl
@[simp] theorem State.setEmode_emode (v : Byte) : (s.setEmode v).emode = v := rfl
@[simp] theorem State.setEmode_bl (v : Byte) : (s.setEmode v).bl = s.bl := rfl
@[simp] theorem State.setEmode_seq (v : Byte) : (s.setEmode v).seq = s.seq := rfl
@[simp] theorem State.setEmode_xfail (v : Byte) : (s.setEmode v).xfail = s.xfail := rfl
@[simp] theorem State.setEmode_failed (v : Byte) : (s.setEmode v).failed = s.failed := rfl
@[simp] theorem State.setEmode_fset (v : Byte) : (s.setEmode v).fset = s.fset := rfl
@[simp] theorem State.setEmode_result (v : Byte) : (s.setEmode v).result = s.result := rfl
@[simp] theorem State.setEmode_txopen (v : Byte) : (s.setEmode v).txopen = s.txopen := rfl
@[simp] theorem State.setEmode_qf (v : Byte) : (s.setEmode v).qf = s.qf := rfl
@[simp] theorem State.setEmode_requests (v : Byte) : (s.setEmode v).requests = s.requests := rfl
@[simp] theorem State.setEmode_din (v : Byte) : (s.setEmode v).din = s.din := rfl
@[simp] theorem State.setEmode_held (v : Byte) : (s.setEmode v).held = s.held := rfl
@[simp] theorem State.setEmode_acks (v : Byte) : (s.setEmode v).acks = s.acks := rfl
@[simp] theorem State.setEmode_closes (v : Byte) : (s.setEmode v).closes = s.closes := rfl
@[simp] theorem State.setEmode_trace (v : Byte) : (s.setEmode v).trace = s.trace := rfl

@[simp] theorem State.setBl_addr (v : Bool) : (s.setBl v).addr = s.addr := rfl
@[simp] theorem State.setBl_cols (v : Bool) : (s.setBl v).cols = s.cols := rfl
@[simp] theorem State.setBl_rows (v : Bool) : (s.setBl v).rows = s.rows := rfl
@[simp] theorem State.setBl_font (v : Bool) : (s.setBl v).font = s.font := rfl
@[simp] theorem State.setBl_oled (v : Bool) : (s.setBl v).oled = s.oled := rfl
@[simp] theorem State.setBl_rowtab (v : Bool) : (s.setBl v).rowtab = s.rowtab := rfl
@[simp] theorem State.setBl_func (v : Bool) : (s.setBl v).func = s.func := rfl
@[simp] theorem State.setBl_dctrl (v : Bool) : (s.setBl v).dctrl = s.dctrl := rfl
@[simp] theorem State.setBl_emode (v : Bool) : (s.setBl v).emode = s.emode := rfl
@[simp] theorem State.setBl_bl (v : Bool) : (s.setBl v).bl = v := rfl
@[simp] theorem State.setBl_seq (v : Bool) : (s.setBl v).seq = s.seq := rfl
@[simp] theorem State.setBl_xfail (v : Bool) : (s.setBl v).xfail = s.xfail := rfl
@[simp] theorem State.setBl_failed (v : Bool) : (s.setBl v).failed = s.failed := rfl
@[simp] theorem State.setBl_fset (v : Bool) : (s.setBl v).fset = s.fset := rfl
@[simp] theorem State.setBl_result (v : Bool) : (s.setBl v).result = s.result := rfl
@[simp] theorem State.setBl_txopen (v : Bool) : (s.setBl v).txopen = s.txopen := rfl
@[simp] theorem State.setBl_qf (v : Bool) : (s.setBl v).qf = s.qf := rfl
@[simp] theorem State.setBl_requests (v : Bool) : (s.setBl v).requests = s.requests := rfl
@[simp] theorem State.setBl_din (v : Bool) : (s.setBl v).din = s.din := rfl
@[simp] theorem State.setBl_held (v : Bool) : (s.setBl v).held = s.held := rfl
@[simp] theorem State.setBl_acks (v : Bool) : (s.setBl v).acks = s.acks := rfl
@[simp] theorem State.setBl_closes (v : Bool) : (s.setBl v).closes = s.closes := rfl
@[simp] theorem State.setBl_trace (v : Bool) : (s.setBl v).trace = s.trace := rfl

@[simp] theorem State.setSeq_addr (v : BitVec 4) : (s.setSeq v).addr = s.addr := rfl
@[simp] theorem State.setSeq_cols (v : BitVec 4) : (s.setSeq v).cols = s.cols := rfl
@[simp] theorem State.setSeq_rows (v : BitVec 4) : (s.setSeq v).rows = s.rows := rfl
@[simp] theorem State.setSeq_font (v : BitVec 4) : (s.setSeq v).font = s.font := rfl
@[simp] theorem State.setSeq_oled (v : BitVec 4) : (s.setSeq v).oled = s.oled := rfl
@[simp] theorem State.setSeq_rowtab (v : BitVec 4) : (s.setSeq v).rowtab = s.rowtab := rfl
@[simp] theorem State.setSeq_func (v : BitVec 4) : (s.setSeq v).func = s.func := rfl
@[simp] theorem State.setSeq_dctrl (v : BitVec 4) : (s.setSeq v).dctrl = s.dctrl := rfl
@[simp] theorem State.setSeq_emode (v : BitVec 4) : (s.setSeq v).emode = s.emode := rfl
@[simp] theorem State.setSeq_bl (v : BitVec 4) : (s.setSeq v).bl = s.bl := rfl
@[simp] theorem State.setSeq_seq (v : BitVec 4) : (s.setSeq v).seq = v := rfl
@[simp] theorem State.setSeq_xfail (v : BitVec 4) : (s.setSeq v).xfail = s.xfail := rfl
@[simp] theorem State.setSeq_failed (v : BitVec 4) : (s.setSeq v).failed = s.failed := rfl
@[simp] theorem State.setSeq_fset (v : BitVec 4) : (s.setSeq v).fset = s.fset := rfl
@[simp] theorem State.setSeq_result (v : BitVec 4) : (s.setSeq v).result = s.result := rfl
@[simp] theorem State.setSeq_txopen (v : BitVec 4) : (s.setSeq v).txopen = s.txopen := rfl
@[simp] theorem State.setSeq_qf (v : BitVec 4) : (s.setSeq v).qf = s.qf := rfl
@[simp] theorem State.setSeq_requests (v : BitVec 4) : (s.setSeq v).requests = s.requests := rfl
@[simp] theorem State.setSeq_din (v : BitVec 4) : (s.setSeq v).din = s.din := rfl
@[simp] theorem State.setSeq_held (v : BitVec 4) : (s.setSeq v).held = s.held := rfl
@[simp] theorem State.setSeq_acks (v : BitVec 4) : (s.setSeq v).acks = s.acks := rfl
@[simp] theorem State.setSeq_closes (v : BitVec 4) : (s.setSeq v).closes = s.closes := rfl
@[simp] theorem State.setSeq_trace (v : BitVec 4) : (s.setSeq v).trace = s.trace := rfl

@[simp] theorem State.setFailed_addr (v : Bool) : (s.setFailed v).addr = s.addr := rfl
@[simp] theorem State.setFailed_cols (v : Bool) : (s.setFailed v).cols = s.cols := rfl
@[simp] theorem State.setFailed_rows (v : Bool) : (s.setFailed v).rows = s.rows := rfl
@[simp] theorem State.setFailed_font (v : Bool) : (s.setFailed v).font = s.font := rfl
@[simp] theorem State.setFailed_oled (v : Bool) : (s.setFailed v).oled = s.oled := rfl
@[simp] theorem State.setFailed_rowtab (v : Bool) : (s.setFailed v).rowtab = s.rowtab := rfl
@[simp] theorem State.setFailed_func (v : Bool) : (s.setFailed v).func = s.func := rfl
@[simp] theorem State.setFailed_dctrl (v : Bool) : (s.setFailed v).dctrl = s.dctrl := rfl
@[simp] theorem State.setFailed_emode (v : Bool) : (s.setFailed v).emode = s.emode := rfl
@[simp] theorem State.setFailed_bl (v : Bool) : (s.setFailed v).bl = s.bl := rfl
@[simp] theorem State.setFailed_seq (v : Bool) : (s.setFailed v).seq = s.seq := rfl
@[simp] theorem State.setFailed_xfail (v : Bool) : (s.setFailed v).xfail = s.xfail := rfl
@[simp] theorem State.setFailed_failed (v : Bool) : (s.setFailed v).failed = v := rfl
@[simp] theorem State.setFailed_fset (v : Bool) : (s.setFailed v).fset = s.fset := rfl
@[simp] theorem State.setFailed_result (v : Bool) : (s.setFailed v).result = s.result := rfl
@[simp] theorem State.setFailed_txopen (v : Bool) : (s.setFailed v).txopen = s.txopen := rfl
@[simp] theorem State.setFailed_qf (v : Bool) : (s.setFailed v).qf = s.qf := rfl
@[simp] theorem State.setFailed_requests (v : Bool) : (s.setFailed v).requests = s.requests := rfl
@[simp] theorem State.setFailed_din (v : Bool) : (s.setFailed v).din = s.din := rfl
@[simp] theorem State.setFailed_held (v : Bool) : (s.setFailed v).held = s.held := rfl
@[simp] theorem State.setFailed_acks (v : Bool) : (s.setFailed v).acks = s.acks := rfl
@[simp] theorem State.setFailed_closes (v : Bool) : (s.setFailed v).closes = s.closes := rfl
@[simp] theorem State.setFailed_trace (v : Bool) : (s.setFailed v).trace = s.trace := rfl

@[simp] theorem State.setTxopen_addr (v : Bool) : (s.setTxopen v).addr = s.addr := rfl
@[simp] theorem State.setTxopen_cols (v : Bool) : (s.setTxopen v).cols = s.cols := rfl
@[simp] theorem State.setTxopen_rows (v : Bool) : (s.setTxopen v).rows = s.rows := rfl
@[simp] theorem State.setTxopen_font (v : Bool) : (s.setTxopen v).font = s.font := rfl
@[simp] theorem State.setTxopen_oled (v : Bool) : (s.setTxopen v).oled = s.oled := rfl
@[simp] theorem State.setTxopen_rowtab (v : Bool) : (s.setTxopen v).rowtab = s.rowtab := rfl
@[simp] theorem State.setTxopen_func (v : Bool) : (s.setTxopen v).func = s.func := rfl
@[simp] theorem State.setTxopen_dctrl (v : Bool) : (s.setTxopen v).dctrl = s.dctrl := rfl
@[simp] theorem State.setTxopen_emode (v : Bool) : (s.setTxopen v).emode = s.emode := rfl
@[simp] theorem State.setTxopen_bl (v : Bool) : (s.setTxopen v).bl = s.bl := rfl
@[simp] theorem State.setTxopen_seq (v : Bool) : (s.setTxopen v).seq = s.seq := rfl
@[simp] theorem State.setTxopen_xfail (v : Bool) : (s.setTxopen v).xfail = s.xfail := rfl
@[simp] theorem State.setTxopen_failed (v : Bool) : (s.setTxopen v).failed = s.failed := rfl
@[simp] theorem State.setTxopen_fset (v : Bool) : (s.setTxopen v).fset = s.fset := rfl
@[simp] theorem State.setTxopen_result (v : Bool) : (s.setTxopen v).result = s.result := rfl
@[simp] theorem State.setTxopen_txopen (v : Bool) : (s.setTxopen v).txopen = v := rfl
@[simp] theorem State.setTxopen_qf (v : Bool) : (s.setTxopen v).qf = s.qf := rfl
@[simp] theorem State.setTxopen_requests (v : Bool) : (s.setTxopen v).requests = s.requests := rfl
@[simp] theorem State.setTxopen_din (v : Bool) : (s.setTxopen v).din = s.din := rfl
@[simp] theorem State.setTxopen_held (v : Bool) : (s.setTxopen v).held = s.held := rfl
@[simp] theorem State.setTxopen_acks (v : Bool) : (s.setTxopen v).acks = s.acks := rfl
@[simp] theorem State.setTxopen_closes (v : Bool) : (s.setTxopen v).closes = s.closes := rfl
@[simp] theorem State.setTxopen_trace (v : Bool) : (s.setTxopen v).trace = s.trace := rfl

@[simp] theorem State.setQf_addr (v : Byte) : (s.setQf v).addr = s.addr := rfl
@[simp] theorem State.setQf_cols (v : Byte) : (s.setQf v).cols = s.cols := rfl
@[simp] theorem State.setQf_rows (v : Byte) : (s.setQf v).rows = s.rows := rfl
@[simp] theorem State.setQf_font (v : Byte) : (s.setQf v).font = s.font := rfl
@[simp] theorem State.setQf_oled (v : Byte) : (s.setQf v).oled = s.oled := rfl
@[simp] theorem State.setQf_rowtab (v : Byte) : (s.setQf v).rowtab = s.rowtab := rfl
@[simp] theorem State.setQf_func (v : Byte) : (s.setQf v).func = s.func := rfl
@[simp] theorem State.setQf_dctrl (v : Byte) : (s.setQf v).dctrl = s.dctrl := rfl
@[simp] theorem State.setQf_emode (v : Byte) : (s.setQf v).emode = s.emode := rfl
@[simp] theorem State.setQf_bl (v : Byte) : (s.setQf v).bl = s.bl := rfl
@[simp] theorem State.setQf_seq (v : Byte) : (s.setQf v).seq = s.seq := rfl
@[simp] theorem State.setQf_xfail (v : Byte) : (s.setQf v).xfail = s.xfail := rfl
@[simp] theorem State.setQf_failed (v : Byte) : (s.setQf v).failed = s.failed := rfl
@[simp] theorem State.setQf_fset (v : Byte) : (s.setQf v).fset = s.fset := rfl
@[simp] theorem State.setQf_result (v : Byte) : (s.setQf v).result = s.result := rfl
@[simp] theorem State.setQf_txopen (v : Byte) : (s.setQf v).txopen = s.txopen := rfl
@[simp] theorem State.setQf_qf (v : Byte) : (s.setQf v).qf = v := rfl
@[simp] theorem State.setQf_requests (v : Byte) : (s.setQf v).requests = s.requests := rfl
@[simp] theorem State.setQf_din (v : Byte) : (s.setQf v).din = s.din := rfl
@[simp] theorem State.setQf_held (v : Byte) : (s.setQf v).held = s.held := rfl
@[simp] theorem State.setQf_acks (v : Byte) : (s.setQf v).acks = s.acks := rfl
@[simp] theorem State.setQf_closes (v : Byte) : (s.setQf v).closes = s.closes := rfl
@[simp] theorem State.setQf_trace (v : Byte) : (s.setQf v).trace = s.trace := rfl

@[simp] theorem State.setDin_addr (v : List Byte) : (s.setDin v).addr = s.addr := rfl
@[simp] theorem State.setDin_cols (v : List Byte) : (s.setDin v).cols = s.cols := rfl
@[simp] theorem State.setDin_rows (v : List Byte) : (s.setDin v).rows = s.rows := rfl
@[simp] theorem State.setDin_font (v : List Byte) : (s.setDin v).font = s.font := rfl
@[simp] theorem State.setDin_oled (v : List Byte) : (s.setDin v).oled = s.oled := rfl
@[simp] theorem State.setDin_rowtab (v : List Byte) : (s.setDin v).rowtab = s.rowtab := rfl
@[simp] theorem State.setDin_func (v : List Byte) : (s.setDin v).func = s.func := rfl
@[simp] theorem State.setDin_dctrl (v : List Byte) : (s.setDin v).dctrl = s.dctrl := rfl
@[simp] theorem State.setDin_emode (v : List Byte) : (s.setDin v).emode = s.emode := rfl
@[simp] theorem State.setDin_bl (v : List Byte) : (s.setDin v).bl = s.bl := rfl
@[simp] theorem State.setDin_seq (v : List Byte) : (s.setDin v).seq = s.seq := rfl
@[simp] theorem State.setDin_xfail (v : List Byte) : (s.setDin v).xfail = s.xfail := rfl
@[simp] theorem State.setDin_failed (v : List Byte) : (s.setDin v).failed = s.failed := rfl
@[simp] theorem State.setDin_fset (v : List Byte) : (s.setDin v).fset = s.fset := rfl
@[simp] theorem State.setDin_result (v : List Byte) : (s.setDin v).result = s.result := rfl
@[simp] theorem State.setDin_txopen (v : List Byte) : (s.setDin v).txopen = s.txopen := rfl
@[simp] theorem State.setDin_qf (v : List Byte) : (s.setDin v).qf = s.qf := rfl
@[simp] theorem State.setDin_requests (v : List Byte) : (s.setDin v).requests = s.requests := rfl
@[simp] theorem State.setDin_din (v : List Byte) : (s.setDin v).din = v := rfl
@[simp] theorem State.setDin_held (v : List Byte) : (s.setDin v).held = s.held := rfl
@[simp] theorem State.setDin_acks (v : List Byte) : (s.setDin v).acks = s.acks := rfl
@[simp] theorem State.setDin_closes (v : List Byte) : (s.setDin v).closes = s.closes := rfl
@[simp] theorem State.setDin_trace (v : List Byte) : (s.setDin v).trace = s.trace := rfl

@[simp] theorem State.setRequests_addr (v : List ReqWord) : (s.setRequests v).addr = s.addr := rfl
@[simp] theorem State.setRequests_cols (v : List ReqWord) : (s.setRequests v).cols = s.cols := rfl
@[simp] theorem State.setRequests_rows (v : List ReqWord) : (s.setRequests v).rows = s.rows := rfl
@[simp] theorem State.setRequests_font (v : List ReqWord) : (s.setRequests v).font = s.font := rfl
@[simp] theorem State.setRequests_oled (v : List ReqWord) : (s.setRequests v).oled = s.oled := rfl
@[simp] theorem State.setRequests_rowtab (v : List ReqWord) : (s.setRequests v).rowtab = s.rowtab := rfl
@[simp] theorem State.setRequests_func (v : List ReqWord) : (s.setRequests v).func = s.func := rfl
@[simp] theorem State.setRequests_dctrl (v : List ReqWord) : (s.setRequests v).dctrl = s.dctrl := rfl
@[simp] theorem State.setRequests_emode (v : List ReqWord) : (s.setRequests v).emode = s.emode := rfl
@[simp] theorem State.setRequests_bl (v : List ReqWord) : (s.setRequests v).bl = s.bl := rfl
@[simp] theorem State.setRequests_seq (v : List ReqWord) : (s.setRequests v).seq = s.seq := rfl
@[simp] theorem State.setRequests_xfail (v : List ReqWord) : (s.setRequests v).xfail = s.xfail := rfl
@[simp] theorem State.setRequests_failed (v : List ReqWord) : (s.setRequests v).failed = s.failed := rfl
@[simp] theorem State.setRequests_fset (v : List ReqWord) : (s.setRequests v).fset = s.fset := rfl
@[simp] theorem State.setRequests_result (v : List ReqWord) : (s.setRequests v).result = s.result := rfl
@[simp] theorem State.setRequests_txopen (v : List ReqWord) : (s.setRequests v).txopen = s.txopen := rfl
@[simp] theorem State.setRequests_qf (v : List ReqWord) : (s.setRequests v).qf = s.qf := rfl
@[simp] theorem State.setRequests_requests (v : List ReqWord) : (s.setRequests v).requests = v := rfl
@[simp] theorem State.setRequests_din (v : List ReqWord) : (s.setRequests v).din = s.din := rfl
@[simp] theorem State.setRequests_held (v : List ReqWord) : (s.setRequests v).held = s.held := rfl
@[simp] theorem State.setRequests_acks (v : List ReqWord) : (s.setRequests v).acks = s.acks := rfl
@[simp] theorem State.setRequests_closes (v : List ReqWord) : (s.setRequests v).closes = s.closes := rfl
@[simp] theorem State.setRequests_trace (v : List ReqWord) : (s.setRequests v).trace = s.trace := rfl

@[simp] theorem State.setHeld_addr (v : Option Held) : (s.setHeld v).addr = s.addr := rfl
@[simp] theorem State.setHeld_cols (v : Option Held) : (s.setHeld v).cols = s.cols := rfl
@[simp] theorem State.setHeld_rows (v : Option Held) : (s.setHeld v).rows = s.rows := rfl
@[simp] theorem State.setHeld_font (v : Option Held) : (s.setHeld v).font = s.font := rfl
@[simp] theorem State.setHeld_oled (v : Option Held) : (s.setHeld v).oled = s.oled := rfl
@[simp] theorem State.setHeld_rowtab (v : Option Held) : (s.setHeld v).rowtab = s.rowtab := rfl
@[simp] theorem State.setHeld_func (v : Option Held) : (s.setHeld v).func = s.func := rfl
@[simp] theorem State.setHeld_dctrl (v : Option Held) : (s.setHeld v).dctrl = s.dctrl := rfl
@[simp] theorem State.setHeld_emode (v : Option Held) : (s.setHeld v).emode = s.emode := rfl
@[simp] theorem State.setHeld_bl (v : Option Held) : (s.setHeld v).bl = s.bl := rfl
@[simp] theorem State.setHeld_seq (v : Option Held) : (s.setHeld v).seq = s.seq := rfl
@[simp] theorem State.setHeld_xfail (v : Option Held) : (s.setHeld v).xfail = s.xfail := rfl
@[simp] theorem State.setHeld_failed (v : Option Held) : (s.setHeld v).failed = s.failed := rfl
@[simp] theorem State.setHeld_fset (v : Option Held) : (s.setHeld v).fset = s.fset := rfl
@[simp] theorem State.setHeld_result (v : Option Held) : (s.setHeld v).result = s.result := rfl
@[simp] theorem State.setHeld_txopen (v : Option Held) : (s.setHeld v).txopen = s.txopen := rfl
@[simp] theorem State.setHeld_qf (v : Option Held) : (s.setHeld v).qf = s.qf := rfl
@[simp] theorem State.setHeld_requests (v : Option Held) : (s.setHeld v).requests = s.requests := rfl
@[simp] theorem State.setHeld_din (v : Option Held) : (s.setHeld v).din = s.din := rfl
@[simp] theorem State.setHeld_held (v : Option Held) : (s.setHeld v).held = v := rfl
@[simp] theorem State.setHeld_acks (v : Option Held) : (s.setHeld v).acks = s.acks := rfl
@[simp] theorem State.setHeld_closes (v : Option Held) : (s.setHeld v).closes = s.closes := rfl
@[simp] theorem State.setHeld_trace (v : Option Held) : (s.setHeld v).trace = s.trace := rfl

@[simp] theorem State.setResult_addr (v : Half) : (s.setResult v).addr = s.addr := rfl
@[simp] theorem State.setResult_cols (v : Half) : (s.setResult v).cols = s.cols := rfl
@[simp] theorem State.setResult_rows (v : Half) : (s.setResult v).rows = s.rows := rfl
@[simp] theorem State.setResult_font (v : Half) : (s.setResult v).font = s.font := rfl
@[simp] theorem State.setResult_oled (v : Half) : (s.setResult v).oled = s.oled := rfl
@[simp] theorem State.setResult_rowtab (v : Half) : (s.setResult v).rowtab = s.rowtab := rfl
@[simp] theorem State.setResult_func (v : Half) : (s.setResult v).func = s.func := rfl
@[simp] theorem State.setResult_dctrl (v : Half) : (s.setResult v).dctrl = s.dctrl := rfl
@[simp] theorem State.setResult_emode (v : Half) : (s.setResult v).emode = s.emode := rfl
@[simp] theorem State.setResult_bl (v : Half) : (s.setResult v).bl = s.bl := rfl
@[simp] theorem State.setResult_seq (v : Half) : (s.setResult v).seq = s.seq := rfl
@[simp] theorem State.setResult_xfail (v : Half) : (s.setResult v).xfail = s.xfail := rfl
@[simp] theorem State.setResult_failed (v : Half) : (s.setResult v).failed = s.failed := rfl
@[simp] theorem State.setResult_fset (v : Half) : (s.setResult v).fset = s.fset := rfl
@[simp] theorem State.setResult_result (v : Half) : (s.setResult v).result = v := rfl
@[simp] theorem State.setResult_txopen (v : Half) : (s.setResult v).txopen = s.txopen := rfl
@[simp] theorem State.setResult_qf (v : Half) : (s.setResult v).qf = s.qf := rfl
@[simp] theorem State.setResult_requests (v : Half) : (s.setResult v).requests = s.requests := rfl
@[simp] theorem State.setResult_din (v : Half) : (s.setResult v).din = s.din := rfl
@[simp] theorem State.setResult_held (v : Half) : (s.setResult v).held = s.held := rfl
@[simp] theorem State.setResult_acks (v : Half) : (s.setResult v).acks = s.acks := rfl
@[simp] theorem State.setResult_closes (v : Half) : (s.setResult v).closes = s.closes := rfl
@[simp] theorem State.setResult_trace (v : Half) : (s.setResult v).trace = s.trace := rfl

@[simp] theorem State.record_addr (e : Event) : (s.record e).addr = s.addr := rfl
@[simp] theorem State.record_cols (e : Event) : (s.record e).cols = s.cols := rfl
@[simp] theorem State.record_rows (e : Event) : (s.record e).rows = s.rows := rfl
@[simp] theorem State.record_font (e : Event) : (s.record e).font = s.font := rfl
@[simp] theorem State.record_oled (e : Event) : (s.record e).oled = s.oled := rfl
@[simp] theorem State.record_rowtab (e : Event) : (s.record e).rowtab = s.rowtab := rfl
@[simp] theorem State.record_func (e : Event) : (s.record e).func = s.func := rfl
@[simp] theorem State.record_dctrl (e : Event) : (s.record e).dctrl = s.dctrl := rfl
@[simp] theorem State.record_emode (e : Event) : (s.record e).emode = s.emode := rfl
@[simp] theorem State.record_bl (e : Event) : (s.record e).bl = s.bl := rfl
@[simp] theorem State.record_seq (e : Event) : (s.record e).seq = s.seq := rfl
@[simp] theorem State.record_xfail (e : Event) : (s.record e).xfail = s.xfail := rfl
@[simp] theorem State.record_failed (e : Event) : (s.record e).failed = s.failed := rfl
@[simp] theorem State.record_fset (e : Event) : (s.record e).fset = s.fset := rfl
@[simp] theorem State.record_result (e : Event) : (s.record e).result = s.result := rfl
@[simp] theorem State.record_txopen (e : Event) : (s.record e).txopen = s.txopen := rfl
@[simp] theorem State.record_qf (e : Event) : (s.record e).qf = s.qf := rfl
@[simp] theorem State.record_requests (e : Event) : (s.record e).requests = s.requests := rfl
@[simp] theorem State.record_din (e : Event) : (s.record e).din = s.din := rfl
@[simp] theorem State.record_held (e : Event) : (s.record e).held = s.held := rfl
@[simp] theorem State.record_acks (e : Event) : (s.record e).acks = s.acks := rfl
@[simp] theorem State.record_closes (e : Event) : (s.record e).closes = s.closes := rfl
@[simp] theorem State.record_trace (e : Event) : (s.record e).trace = s.trace ++ [e] := rfl

@[simp] theorem State.ackTaken_addr : s.ackTaken.addr = s.addr := rfl
@[simp] theorem State.ackTaken_cols : s.ackTaken.cols = s.cols := rfl
@[simp] theorem State.ackTaken_rows : s.ackTaken.rows = s.rows := rfl
@[simp] theorem State.ackTaken_font : s.ackTaken.font = s.font := rfl
@[simp] theorem State.ackTaken_oled : s.ackTaken.oled = s.oled := rfl
@[simp] theorem State.ackTaken_rowtab : s.ackTaken.rowtab = s.rowtab := rfl
@[simp] theorem State.ackTaken_func : s.ackTaken.func = s.func := rfl
@[simp] theorem State.ackTaken_dctrl : s.ackTaken.dctrl = s.dctrl := rfl
@[simp] theorem State.ackTaken_emode : s.ackTaken.emode = s.emode := rfl
@[simp] theorem State.ackTaken_bl : s.ackTaken.bl = s.bl := rfl
@[simp] theorem State.ackTaken_seq : s.ackTaken.seq = s.seq := rfl
@[simp] theorem State.ackTaken_xfail : s.ackTaken.xfail = s.xfail := rfl
@[simp] theorem State.ackTaken_failed : s.ackTaken.failed = s.failed := rfl
@[simp] theorem State.ackTaken_fset : s.ackTaken.fset = s.fset := rfl
@[simp] theorem State.ackTaken_result : s.ackTaken.result = s.result := rfl
@[simp] theorem State.ackTaken_txopen : s.ackTaken.txopen = s.txopen := rfl
@[simp] theorem State.ackTaken_qf : s.ackTaken.qf = s.qf := rfl
@[simp] theorem State.ackTaken_requests : s.ackTaken.requests = s.requests := rfl
@[simp] theorem State.ackTaken_din : s.ackTaken.din = s.din := rfl
@[simp] theorem State.ackTaken_held : s.ackTaken.held = s.held := rfl
@[simp] theorem State.ackTaken_acks : s.ackTaken.acks = s.acks.drop 1 := rfl
@[simp] theorem State.ackTaken_closes : s.ackTaken.closes = s.closes + 1 := rfl
@[simp] theorem State.ackTaken_trace : s.ackTaken.trace = s.trace := rfl

@[simp] theorem State.noteAck_addr (ack : Bool) : (s.noteAck ack).addr = s.addr := rfl
@[simp] theorem State.noteAck_cols (ack : Bool) : (s.noteAck ack).cols = s.cols := rfl
@[simp] theorem State.noteAck_rows (ack : Bool) : (s.noteAck ack).rows = s.rows := rfl
@[simp] theorem State.noteAck_font (ack : Bool) : (s.noteAck ack).font = s.font := rfl
@[simp] theorem State.noteAck_oled (ack : Bool) : (s.noteAck ack).oled = s.oled := rfl
@[simp] theorem State.noteAck_rowtab (ack : Bool) : (s.noteAck ack).rowtab = s.rowtab := rfl
@[simp] theorem State.noteAck_func (ack : Bool) : (s.noteAck ack).func = s.func := rfl
@[simp] theorem State.noteAck_dctrl (ack : Bool) : (s.noteAck ack).dctrl = s.dctrl := rfl
@[simp] theorem State.noteAck_emode (ack : Bool) : (s.noteAck ack).emode = s.emode := rfl
@[simp] theorem State.noteAck_bl (ack : Bool) : (s.noteAck ack).bl = s.bl := rfl
@[simp] theorem State.noteAck_seq (ack : Bool) : (s.noteAck ack).seq = s.seq := rfl
@[simp] theorem State.noteAck_xfail (ack : Bool) : (s.noteAck ack).xfail = (s.xfail || !ack) := rfl
@[simp] theorem State.noteAck_failed (ack : Bool) : (s.noteAck ack).failed = s.failed := rfl
@[simp] theorem State.noteAck_fset (ack : Bool) : (s.noteAck ack).fset = s.fset := rfl
@[simp] theorem State.noteAck_result (ack : Bool) : (s.noteAck ack).result = s.result := rfl
@[simp] theorem State.noteAck_txopen (ack : Bool) : (s.noteAck ack).txopen = s.txopen := rfl
@[simp] theorem State.noteAck_qf (ack : Bool) : (s.noteAck ack).qf = s.qf := rfl
@[simp] theorem State.noteAck_requests (ack : Bool) : (s.noteAck ack).requests = s.requests := rfl
@[simp] theorem State.noteAck_din (ack : Bool) : (s.noteAck ack).din = s.din := rfl
@[simp] theorem State.noteAck_held (ack : Bool) : (s.noteAck ack).held = s.held := rfl
@[simp] theorem State.noteAck_acks (ack : Bool) : (s.noteAck ack).acks = s.acks := rfl
@[simp] theorem State.noteAck_closes (ack : Bool) : (s.noteAck ack).closes = s.closes := rfl
@[simp] theorem State.noteAck_trace (ack : Bool) : (s.noteAck ack).trace = s.trace := rfl

@[simp] theorem State.raiseFault_addr (c : Fault) : (s.raiseFault c).addr = s.addr := rfl
@[simp] theorem State.raiseFault_cols (c : Fault) : (s.raiseFault c).cols = s.cols := rfl
@[simp] theorem State.raiseFault_rows (c : Fault) : (s.raiseFault c).rows = s.rows := rfl
@[simp] theorem State.raiseFault_font (c : Fault) : (s.raiseFault c).font = s.font := rfl
@[simp] theorem State.raiseFault_oled (c : Fault) : (s.raiseFault c).oled = s.oled := rfl
@[simp] theorem State.raiseFault_rowtab (c : Fault) : (s.raiseFault c).rowtab = s.rowtab := rfl
@[simp] theorem State.raiseFault_func (c : Fault) : (s.raiseFault c).func = s.func := rfl
@[simp] theorem State.raiseFault_dctrl (c : Fault) : (s.raiseFault c).dctrl = s.dctrl := rfl
@[simp] theorem State.raiseFault_emode (c : Fault) : (s.raiseFault c).emode = s.emode := rfl
@[simp] theorem State.raiseFault_bl (c : Fault) : (s.raiseFault c).bl = s.bl := rfl
@[simp] theorem State.raiseFault_seq (c : Fault) : (s.raiseFault c).seq = s.seq := rfl
@[simp] theorem State.raiseFault_xfail (c : Fault) : (s.raiseFault c).xfail = s.xfail := rfl
@[simp] theorem State.raiseFault_failed (c : Fault) : (s.raiseFault c).failed = s.failed := rfl
@[simp] theorem State.raiseFault_fset (c : Fault) : (s.raiseFault c).fset = s.fset ||| c.fsetBit := rfl
@[simp] theorem State.raiseFault_result (c : Fault) : (s.raiseFault c).result = s.result := rfl
@[simp] theorem State.raiseFault_txopen (c : Fault) : (s.raiseFault c).txopen = s.txopen := rfl
@[simp] theorem State.raiseFault_qf (c : Fault) : (s.raiseFault c).qf = s.qf := rfl
@[simp] theorem State.raiseFault_requests (c : Fault) : (s.raiseFault c).requests = s.requests := rfl
@[simp] theorem State.raiseFault_din (c : Fault) : (s.raiseFault c).din = s.din := rfl
@[simp] theorem State.raiseFault_held (c : Fault) : (s.raiseFault c).held = s.held := rfl
@[simp] theorem State.raiseFault_acks (c : Fault) : (s.raiseFault c).acks = s.acks := rfl
@[simp] theorem State.raiseFault_closes (c : Fault) : (s.raiseFault c).closes = s.closes := rfl
@[simp] theorem State.raiseFault_trace (c : Fault) : (s.raiseFault c).trace = s.trace := rfl

@[simp] theorem State.supplyDin_addr (bs : List Byte) : (s.supplyDin bs).addr = s.addr := rfl
@[simp] theorem State.supplyDin_cols (bs : List Byte) : (s.supplyDin bs).cols = s.cols := rfl
@[simp] theorem State.supplyDin_rows (bs : List Byte) : (s.supplyDin bs).rows = s.rows := rfl
@[simp] theorem State.supplyDin_font (bs : List Byte) : (s.supplyDin bs).font = s.font := rfl
@[simp] theorem State.supplyDin_oled (bs : List Byte) : (s.supplyDin bs).oled = s.oled := rfl
@[simp] theorem State.supplyDin_rowtab (bs : List Byte) : (s.supplyDin bs).rowtab = s.rowtab := rfl
@[simp] theorem State.supplyDin_func (bs : List Byte) : (s.supplyDin bs).func = s.func := rfl
@[simp] theorem State.supplyDin_dctrl (bs : List Byte) : (s.supplyDin bs).dctrl = s.dctrl := rfl
@[simp] theorem State.supplyDin_emode (bs : List Byte) : (s.supplyDin bs).emode = s.emode := rfl
@[simp] theorem State.supplyDin_bl (bs : List Byte) : (s.supplyDin bs).bl = s.bl := rfl
@[simp] theorem State.supplyDin_seq (bs : List Byte) : (s.supplyDin bs).seq = s.seq := rfl
@[simp] theorem State.supplyDin_xfail (bs : List Byte) : (s.supplyDin bs).xfail = s.xfail := rfl
@[simp] theorem State.supplyDin_failed (bs : List Byte) : (s.supplyDin bs).failed = s.failed := rfl
@[simp] theorem State.supplyDin_fset (bs : List Byte) : (s.supplyDin bs).fset = s.fset := rfl
@[simp] theorem State.supplyDin_result (bs : List Byte) : (s.supplyDin bs).result = s.result := rfl
@[simp] theorem State.supplyDin_txopen (bs : List Byte) : (s.supplyDin bs).txopen = s.txopen := rfl
@[simp] theorem State.supplyDin_qf (bs : List Byte) : (s.supplyDin bs).qf = s.qf := rfl
@[simp] theorem State.supplyDin_requests (bs : List Byte) : (s.supplyDin bs).requests = s.requests := rfl
@[simp] theorem State.supplyDin_din (bs : List Byte) : (s.supplyDin bs).din = s.din ++ bs := rfl
@[simp] theorem State.supplyDin_held (bs : List Byte) : (s.supplyDin bs).held = s.held := rfl
@[simp] theorem State.supplyDin_acks (bs : List Byte) : (s.supplyDin bs).acks = s.acks := rfl
@[simp] theorem State.supplyDin_closes (bs : List Byte) : (s.supplyDin bs).closes = s.closes := rfl
@[simp] theorem State.supplyDin_trace (bs : List Byte) : (s.supplyDin bs).trace = s.trace := rfl

@[simp] theorem State.initMirrors_addr : s.initMirrors.addr = s.addr := rfl
@[simp] theorem State.initMirrors_cols : s.initMirrors.cols = s.cols := rfl
@[simp] theorem State.initMirrors_rows : s.initMirrors.rows = s.rows := rfl
@[simp] theorem State.initMirrors_font : s.initMirrors.font = s.font := rfl
@[simp] theorem State.initMirrors_oled : s.initMirrors.oled = s.oled := rfl
@[simp] theorem State.initMirrors_rowtab : s.initMirrors.rowtab = s.rowtab := rfl
@[simp] theorem State.initMirrors_func : s.initMirrors.func = functionFlags s.rows s.font := rfl
@[simp] theorem State.initMirrors_dctrl : s.initMirrors.dctrl = Config.codes.dOn := rfl
@[simp] theorem State.initMirrors_emode : s.initMirrors.emode = Config.codes.eLeft := rfl
@[simp] theorem State.initMirrors_bl : s.initMirrors.bl = s.bl := rfl
@[simp] theorem State.initMirrors_seq : s.initMirrors.seq = s.seq := rfl
@[simp] theorem State.initMirrors_xfail : s.initMirrors.xfail = s.xfail := rfl
@[simp] theorem State.initMirrors_failed : s.initMirrors.failed = s.failed := rfl
@[simp] theorem State.initMirrors_fset : s.initMirrors.fset = s.fset := rfl
@[simp] theorem State.initMirrors_result : s.initMirrors.result = s.result := rfl
@[simp] theorem State.initMirrors_txopen : s.initMirrors.txopen = s.txopen := rfl
@[simp] theorem State.initMirrors_qf : s.initMirrors.qf = s.qf := rfl
@[simp] theorem State.initMirrors_requests : s.initMirrors.requests = s.requests := rfl
@[simp] theorem State.initMirrors_din : s.initMirrors.din = s.din := rfl
@[simp] theorem State.initMirrors_held : s.initMirrors.held = s.held := rfl
@[simp] theorem State.initMirrors_acks : s.initMirrors.acks = s.acks := rfl
@[simp] theorem State.initMirrors_closes : s.initMirrors.closes = s.closes := rfl
@[simp] theorem State.initMirrors_trace : s.initMirrors.trace = s.trace := rfl

@[simp] theorem State.configure_addr (bl : Bool) (a : BusAddr) (cols rows : Byte) (font oled : Bool) : (s.configure bl a cols rows font oled).addr = a := rfl
@[simp] theorem State.configure_cols (bl : Bool) (a : BusAddr) (cols rows : Byte) (font oled : Bool) : (s.configure bl a cols rows font oled).cols = cols := rfl
@[simp] theorem State.configure_rows (bl : Bool) (a : BusAddr) (cols rows : Byte) (font oled : Bool) : (s.configure bl a cols rows font oled).rows = rows := rfl
@[simp] theorem State.configure_font (bl : Bool) (a : BusAddr) (cols rows : Byte) (font oled : Bool) : (s.configure bl a cols rows font oled).font = font := rfl
@[simp] theorem State.configure_oled (bl : Bool) (a : BusAddr) (cols rows : Byte) (font oled : Bool) : (s.configure bl a cols rows font oled).oled = oled := rfl
@[simp] theorem State.configure_rowtab (bl : Bool) (a : BusAddr) (cols rows : Byte) (font oled : Bool) : (s.configure bl a cols rows font oled).rowtab = RowTab.ofCols cols := rfl
@[simp] theorem State.configure_func (bl : Bool) (a : BusAddr) (cols rows : Byte) (font oled : Bool) : (s.configure bl a cols rows font oled).func = s.func := rfl
@[simp] theorem State.configure_dctrl (bl : Bool) (a : BusAddr) (cols rows : Byte) (font oled : Bool) : (s.configure bl a cols rows font oled).dctrl = s.dctrl := rfl
@[simp] theorem State.configure_emode (bl : Bool) (a : BusAddr) (cols rows : Byte) (font oled : Bool) : (s.configure bl a cols rows font oled).emode = s.emode := rfl
@[simp] theorem State.configure_bl (bl : Bool) (a : BusAddr) (cols rows : Byte) (font oled : Bool) : (s.configure bl a cols rows font oled).bl = bl := rfl
@[simp] theorem State.configure_seq (bl : Bool) (a : BusAddr) (cols rows : Byte) (font oled : Bool) : (s.configure bl a cols rows font oled).seq = s.seq := rfl
@[simp] theorem State.configure_xfail (bl : Bool) (a : BusAddr) (cols rows : Byte) (font oled : Bool) : (s.configure bl a cols rows font oled).xfail = s.xfail := rfl
@[simp] theorem State.configure_failed (bl : Bool) (a : BusAddr) (cols rows : Byte) (font oled : Bool) : (s.configure bl a cols rows font oled).failed = s.failed := rfl
@[simp] theorem State.configure_fset (bl : Bool) (a : BusAddr) (cols rows : Byte) (font oled : Bool) : (s.configure bl a cols rows font oled).fset = s.fset := rfl
@[simp] theorem State.configure_result (bl : Bool) (a : BusAddr) (cols rows : Byte) (font oled : Bool) : (s.configure bl a cols rows font oled).result = s.result := rfl
@[simp] theorem State.configure_txopen (bl : Bool) (a : BusAddr) (cols rows : Byte) (font oled : Bool) : (s.configure bl a cols rows font oled).txopen = s.txopen := rfl
@[simp] theorem State.configure_qf (bl : Bool) (a : BusAddr) (cols rows : Byte) (font oled : Bool) : (s.configure bl a cols rows font oled).qf = s.qf := rfl
@[simp] theorem State.configure_requests (bl : Bool) (a : BusAddr) (cols rows : Byte) (font oled : Bool) : (s.configure bl a cols rows font oled).requests = s.requests := rfl
@[simp] theorem State.configure_din (bl : Bool) (a : BusAddr) (cols rows : Byte) (font oled : Bool) : (s.configure bl a cols rows font oled).din = s.din := rfl
@[simp] theorem State.configure_held (bl : Bool) (a : BusAddr) (cols rows : Byte) (font oled : Bool) : (s.configure bl a cols rows font oled).held = s.held := rfl
@[simp] theorem State.configure_acks (bl : Bool) (a : BusAddr) (cols rows : Byte) (font oled : Bool) : (s.configure bl a cols rows font oled).acks = s.acks := rfl
@[simp] theorem State.configure_closes (bl : Bool) (a : BusAddr) (cols rows : Byte) (font oled : Bool) : (s.configure bl a cols rows font oled).closes = s.closes := rfl
@[simp] theorem State.configure_trace (bl : Bool) (a : BusAddr) (cols rows : Byte) (font oled : Bool) : (s.configure bl a cols rows font oled).trace = s.trace := rfl

end Sys2Proof.Machine
end

