-- ==== Sys2Proof/Laws/Ops.lean ====
section
/-! SUPPORT. What each shared operation can do, said once: emitting events (`State.emit_eq`), the acknowledges they use up,
the guard of the steady-state requests. -/

namespace Sys2Proof.Machine

@[simp] theorem closeCount_append (es fs : List Event) : closeCount (es ++ fs) = closeCount es + closeCount fs := by
  induction es with
  | nil => simp [closeCount]
  | cons e es ih => cases e <;> simp [closeCount, ih]; omega

/-- TXOPEN after events: the last Open or Close decides (40_frame_encoder.md R104). -/
def txAfter : Bool → List Event → Bool
  | b, [] => b
  | _, .openTx _ :: es => txAfter true es
  | _, .closeTx stop :: es => txAfter (!stop) es
  | b, _ :: es => txAfter b es

@[simp] theorem txAfter_append (b : Bool) (es fs : List Event) : txAfter b (es ++ fs) = txAfter (txAfter b es) fs := by
  induction es generalizing b with
  | nil => rfl
  | cons e es ih => cases e <;> simp [txAfter, ih]

/-- The acknowledges that are left after one has been taken. -/
theorem State.ackAt_of_drop (s t : State) (h : t.acks = s.acks.drop 1) (hc : t.closes = s.closes + 1) (n : Nat) :
    t.ackAt n = s.ackAt (n + 1) := by
  simp [State.ackAt, h, hc, Nat.add_assoc, Nat.add_comm 1 n]

/-- Is one of `n` answers negative, given the acknowledges fixed and the number of Closes so far? -/
def anyNack (acks : List Bool) (closes n : Nat) : Bool :=
  (List.range n).any (fun k => !((acks[k]?).getD (Config.freeAck (closes + k))))

/-- Only `acks` and `closes` decide the answers to come. -/
theorem State.nackedIn_eq (s : State) (n : Nat) : s.nackedIn n = anyNack s.acks s.closes n := rfl

@[simp] theorem State.nackedIn_zero (s : State) : s.nackedIn 0 = false := rfl

theorem State.nackedIn_succ (s : State) (n : Nat) :
    s.nackedIn (n + 1) = (!s.ackAt 0 || s.ackTaken.nackedIn n) := by
  have h (k : Nat) : s.ackTaken.ackAt k = s.ackAt (k + 1) := s.ackAt_of_drop s.ackTaken rfl rfl k
  simp only [State.nackedIn, List.range_succ_eq_map, List.any_cons, List.any_map, Function.comp_def, h]

/-- Answers in a row: the first `m`, then the `n` after them. -/
theorem State.nackedIn_add (s t : State) (m n : Nat) (h : t.acks = s.acks.drop m) (hc : t.closes = s.closes + m) :
    s.nackedIn (m + n) = (s.nackedIn m || t.nackedIn n) := by
  have ht (k : Nat) : t.ackAt k = s.ackAt (m + k) := by
    simp [State.ackAt, h, hc, Nat.add_assoc]
  simp [State.nackedIn, List.range_add, List.any_append, List.any_map, Function.comp_def, ht]

/-- Everything that emitting events does: the trace grows by them, TXOPEN is what the last Open or Close leaves, one
acknowledge is used up per Close, and XFAIL is set where one of those is negative. -/
theorem State.emit_eq (s : State) (es : List Event) :
    s.emit es = { s with
      trace := s.trace ++ es, txopen := txAfter s.txopen es, xfail := s.xfail || s.nackedIn (closeCount es),
      acks := s.acks.drop (closeCount es), closes := s.closes + closeCount es } := by
  induction es generalizing s with
  | nil => simp [State.emit, txAfter, closeCount]
  | cons e es ih =>
    cases e with
    | openTx a => simp [State.emit, ih, State.emitOne, State.record, State.setTxopen, txAfter, closeCount]; rfl
    | wr b => simp [State.emit, ih, State.emitOne, State.record, txAfter, closeCount]; rfl
    | wait u => simp [State.emit, ih, State.emitOne, State.record, txAfter, closeCount]; rfl
    | closeTx stop =>
      rw [State.emit, ih, closeCount, State.nackedIn_succ]
      have ha (n : Nat) : 1 + n = n + 1 := Nat.add_comm 1 n
      simp only [State.emitOne, State.record, State.ackTaken, State.noteAck,
        State.setTxopen, txAfter, List.append_assoc, List.drop_drop,
        List.singleton_append, Bool.or_assoc, Nat.add_assoc, ha]
      rfl

/-! What emitting leaves in each field. -/

@[simp] theorem State.emit_addr (s : State) (es : List Event) : (s.emit es).addr = s.addr := by rw [emit_eq]
@[simp] theorem State.emit_cols (s : State) (es : List Event) : (s.emit es).cols = s.cols := by rw [emit_eq]
@[simp] theorem State.emit_rows (s : State) (es : List Event) : (s.emit es).rows = s.rows := by rw [emit_eq]
@[simp] theorem State.emit_font (s : State) (es : List Event) : (s.emit es).font = s.font := by rw [emit_eq]
@[simp] theorem State.emit_oled (s : State) (es : List Event) : (s.emit es).oled = s.oled := by rw [emit_eq]
@[simp] theorem State.emit_rowtab (s : State) (es : List Event) : (s.emit es).rowtab = s.rowtab := by rw [emit_eq]
@[simp] theorem State.emit_func (s : State) (es : List Event) : (s.emit es).func = s.func := by rw [emit_eq]
@[simp] theorem State.emit_dctrl (s : State) (es : List Event) : (s.emit es).dctrl = s.dctrl := by rw [emit_eq]
@[simp] theorem State.emit_emode (s : State) (es : List Event) : (s.emit es).emode = s.emode := by rw [emit_eq]
@[simp] theorem State.emit_bl (s : State) (es : List Event) : (s.emit es).bl = s.bl := by rw [emit_eq]
@[simp] theorem State.emit_seq (s : State) (es : List Event) : (s.emit es).seq = s.seq := by rw [emit_eq]
@[simp] theorem State.emit_failed (s : State) (es : List Event) : (s.emit es).failed = s.failed := by rw [emit_eq]
@[simp] theorem State.emit_fset (s : State) (es : List Event) : (s.emit es).fset = s.fset := by rw [emit_eq]
@[simp] theorem State.emit_result (s : State) (es : List Event) : (s.emit es).result = s.result := by rw [emit_eq]
@[simp] theorem State.emit_qf (s : State) (es : List Event) : (s.emit es).qf = s.qf := by rw [emit_eq]
@[simp] theorem State.emit_requests (s : State) (es : List Event) : (s.emit es).requests = s.requests := by rw [emit_eq]
@[simp] theorem State.emit_din (s : State) (es : List Event) : (s.emit es).din = s.din := by rw [emit_eq]
@[simp] theorem State.emit_held (s : State) (es : List Event) : (s.emit es).held = s.held := by rw [emit_eq]
@[simp] theorem State.emit_trace (s : State) (es : List Event) : (s.emit es).trace = s.trace ++ es := by rw [emit_eq]
@[simp] theorem State.emit_txopen (s : State) (es : List Event) : (s.emit es).txopen = txAfter s.txopen es := by rw [emit_eq]
@[simp] theorem State.emit_xfail (s : State) (es : List Event) :
    (s.emit es).xfail = (s.xfail || s.nackedIn (closeCount es)) := by rw [emit_eq]
@[simp] theorem State.emit_acks (s : State) (es : List Event) : (s.emit es).acks = s.acks.drop (closeCount es) := by
  rw [emit_eq]
@[simp] theorem State.emit_closes (s : State) (es : List Event) : (s.emit es).closes = s.closes + closeCount es := by
  rw [emit_eq]

/-! Registers that emitting neither reads nor writes may be written before or after. -/

@[simp] theorem State.emit_setFunc (s : State) (v : Byte) (es : List Event) :
    (s.setFunc v).emit es = (s.emit es).setFunc v := by
  simp [emit_eq, setFunc, nackedIn_eq]
@[simp] theorem State.emit_setDctrl (s : State) (v : Byte) (es : List Event) :
    (s.setDctrl v).emit es = (s.emit es).setDctrl v := by
  simp [emit_eq, setDctrl, nackedIn_eq]
@[simp] theorem State.emit_setEmode (s : State) (v : Byte) (es : List Event) :
    (s.setEmode v).emit es = (s.emit es).setEmode v := by
  simp [emit_eq, setEmode, nackedIn_eq]
@[simp] theorem State.emit_setBl (s : State) (v : Bool) (es : List Event) :
    (s.setBl v).emit es = (s.emit es).setBl v := by
  simp [emit_eq, setBl, nackedIn_eq]
@[simp] theorem State.emit_setSeq (s : State) (v : BitVec 4) (es : List Event) :
    (s.setSeq v).emit es = (s.emit es).setSeq v := by
  simp [emit_eq, setSeq, nackedIn_eq]
@[simp] theorem State.emit_setFailed (s : State) (v : Bool) (es : List Event) :
    (s.setFailed v).emit es = (s.emit es).setFailed v := by
  simp [emit_eq, setFailed, nackedIn_eq]
@[simp] theorem State.emit_setQf (s : State) (v : Byte) (es : List Event) :
    (s.setQf v).emit es = (s.emit es).setQf v := by
  simp [emit_eq, setQf, nackedIn_eq]
@[simp] theorem State.emit_setDin (s : State) (v : List Byte) (es : List Event) :
    (s.setDin v).emit es = (s.emit es).setDin v := by
  simp [emit_eq, setDin, nackedIn_eq]
@[simp] theorem State.emit_setRequests (s : State) (v : List ReqWord) (es : List Event) :
    (s.setRequests v).emit es = (s.emit es).setRequests v := by
  simp [emit_eq, setRequests, nackedIn_eq]
@[simp] theorem State.emit_setHeld (s : State) (v : Option Held) (es : List Event) :
    (s.setHeld v).emit es = (s.emit es).setHeld v := by
  simp [emit_eq, setHeld, nackedIn_eq]
@[simp] theorem State.emit_setResult (s : State) (v : Half) (es : List Event) :
    (s.setResult v).emit es = (s.emit es).setResult v := by
  simp [emit_eq, setResult, nackedIn_eq]

theorem State.emit_append (s : State) (es fs : List Event) : s.emit (es ++ fs) = (s.emit es).emit fs := by
  induction es generalizing s with
  | nil => rfl
  | cons e es ih => simp [State.emit, ih]

end Sys2Proof.Machine
end

