-- ==== Sys2Proof/Laws/ByteOps.lean ====
section
/-! SUPPORT. The two loops that read DIN, said once: what they do with enough bytes, with too few, and when they go on. -/

namespace Sys2Proof.Machine

/-- Setting a register twice, or to what it holds. -/
@[simp] theorem State.setDin_setDin (s : State) (a b : List Byte) : (s.setDin a).setDin b = s.setDin b := rfl
@[simp] theorem State.setHeld_setHeld (s : State) (a b : Option Held) : (s.setHeld a).setHeld b = s.setHeld b := rfl
@[simp] theorem State.setQf_setQf (s : State) (a b : Byte) : (s.setQf a).setQf b = s.setQf b := rfl
theorem State.setDin_self (s : State) (v : List Byte) (h : s.din = v) : s.setDin v = s := by subst h; rfl
theorem State.setQf_self (s : State) (v : Byte) (h : s.qf = v) : s.setQf v = s := by subst h; rfl
theorem State.setHeld_self (s : State) (v : Option Held) (h : s.held = v) : s.setHeld v = s := by subst h; rfl

/-- The events of one character: the flush where the transaction is full, and the four writes. -/
def wstrCharEvents (cap : Nat) (c : Byte) (a : BusAddr) (bl : Bool) (qf : Byte) : List Event :=
  (if qf.toNat + 2 > cap then [.closeTx false, .openTx a] else []) ++ sendByte Config.wiring bl c true

/-- One character emits its events and counts its frames; it touches nothing else. -/
theorem wstrChar_eq (cap : Nat) (c : Byte) (s : State) :
    wstrChar cap c s =
      (s.emit (wstrCharEvents cap c s.addr s.bl s.qf)).setQf (if s.qf.toNat + 2 > cap then 2#8 else s.qf + 2#8) := by
  by_cases h : s.qf.toNat + 2 > cap
  · simp [wstrChar, wstrFlush, wstrCharEvents, h, ← State.emit_append]
  · simp [wstrChar, wstrFlush, wstrCharEvents, h]

@[simp] theorem wstrChar_setDin (cap : Nat) (c : Byte) (s : State) (v : List Byte) :
    wstrChar cap c (s.setDin v) = (wstrChar cap c s).setDin v := by
  simp only [wstrChar_eq, State.setDin_addr, State.setDin_bl, State.setDin_qf, State.emit_setDin]
  rfl

@[simp] theorem wstrChar_setHeld (cap : Nat) (c : Byte) (s : State) (v : Option Held) :
    wstrChar cap c (s.setHeld v) = (wstrChar cap c s).setHeld v := by
  simp only [wstrChar_eq, State.setHeld_addr, State.setHeld_bl, State.setHeld_qf, State.emit_setHeld]
  rfl

@[simp] theorem wstrChar_din (cap : Nat) (c : Byte) (s : State) : (wstrChar cap c s).din = s.din := by
  simp [wstrChar_eq]

/-- The characters of a list, sent one after another. -/
def wstrChars (cap : Nat) (cs : List Byte) (s : State) : State := cs.foldl (fun s c => wstrChar cap c s) s

theorem wstrChars_setDin (cap : Nat) (cs : List Byte) (s : State) (v : List Byte) :
    wstrChars cap cs (s.setDin v) = (wstrChars cap cs s).setDin v := by
  induction cs generalizing s with
  | nil => rfl
  | cons c cs ih => simp only [wstrChars, List.foldl_cons, wstrChar_setDin] at ih ⊢; rw [ih]

/-- With enough bytes on DIN the loop sends them and finishes. -/
theorem wstrLoop_enough (cap : Nat) (len : Half) (n : Nat) (s : State) (h : n ≤ s.din.length) :
    wstrLoop cap len n s = wstrFinish len ((wstrChars cap (s.din.take n) s).setDin (s.din.drop n)) := by
  induction n generalizing s with
  | zero => simp [wstrLoop, wstrChars, State.setDin_self]
  | succ n ih =>
    match hd : s.din with
    | [] => simp [hd] at h
    | c :: cs =>
      have hl : n ≤ cs.length := by simp [hd] at h; omega
      have ht := wstrChars_setDin cap (cs.take n) (wstrChar cap c s) cs
      simp only [wstrLoop, State.dinRead, hd]
      rw [ih _ (by simpa using hl)]
      simp [wstrChars] at ht ⊢
      rw [ht, State.setDin_setDin]

/-- With too few, it sends what there is and holds. -/
theorem wstrLoop_short (cap : Nat) (len : Half) (n : Nat) (s : State) (h : s.din.length < n) :
    wstrLoop cap len n s
      = ((wstrChars cap s.din s).setDin []).setHeld (some (.writeString len (n - s.din.length))) := by
  induction n generalizing s with
  | zero => simp at h
  | succ n ih =>
    match hd : s.din with
    | [] => simp [wstrLoop, State.dinRead, hd, wstrChars, State.setDin_self]
    | c :: cs =>
      have hl : cs.length < n := by simp [hd] at h; omega
      have ht := wstrChars_setDin cap cs (wstrChar cap c s) cs
      simp only [wstrLoop, State.dinRead, hd]
      rw [ih _ (by simpa using hl)]
      simp [wstrChars] at ht ⊢
      rw [ht, State.setDin_setDin]

/-- The loop does not read what is held. -/
theorem wstrLoop_setHeld (cap : Nat) (len : Half) (n : Nat) (s : State) (v : Option Held) :
    wstrLoop cap len n (s.setHeld v) = wstrLoop cap len n s := by
  induction n generalizing s with
  | zero =>
    simp only [wstrLoop, wstrFinish, State.emit_setHeld]
    rfl
  | succ n ih =>
    match hd : s.din with
    | [] => simp [wstrLoop, State.dinRead, hd]
    | c :: cs =>
      have hc : (s.setHeld v).setDin cs = (s.setDin cs).setHeld v := rfl
      simp only [wstrLoop, State.dinRead, hd, State.setHeld_din]
      rw [hc, wstrChar_setHeld, ih]

/-- With enough bytes on DIN the glyph loop sends each as data and finishes. -/
theorem glyphLoop_enough (n : Nat) (s : State) (h : n ≤ s.din.length) :
    glyphLoop n s =
      (((s.emit ((s.din.take n).flatMap (dataEvents s.addr s.bl))).setDin (s.din.drop n)).setHeld none).setResult 0#16 := by
  induction n generalizing s with
  | zero => simp [glyphLoop, State.emit, State.setDin_self]
  | succ n ih =>
    match hd : s.din with
    | [] => simp [hd] at h
    | c :: cs =>
      have hl : n ≤ cs.length := by simp [hd] at h; omega
      simp only [glyphLoop, State.dinRead, hd]
      rw [ih _ (by simpa using hl)]
      simp [← State.emit_append]

/-- With too few, it sends what there is and holds. -/
theorem glyphLoop_short (n : Nat) (s : State) (h : s.din.length < n) :
    glyphLoop n s =
      ((s.emit (s.din.flatMap (dataEvents s.addr s.bl))).setDin []).setHeld
        (some (.defineCustomChar (n - s.din.length))) := by
  induction n generalizing s with
  | zero => simp at h
  | succ n ih =>
    match hd : s.din with
    | [] => simp [glyphLoop, State.dinRead, hd, State.emit, State.setDin_self]
    | c :: cs =>
      have hl : cs.length < n := by simp [hd] at h; omega
      simp only [glyphLoop, State.dinRead, hd]
      rw [ih _ (by simpa using hl)]
      simp [← State.emit_append]

/-- The loop does not read what is held. -/
theorem glyphLoop_setHeld (n : Nat) (s : State) (v : Option Held) : glyphLoop n (s.setHeld v) = glyphLoop n s := by
  induction n generalizing s with
  | zero => simp [glyphLoop]
  | succ n ih =>
    match hd : s.din with
    | [] => simp [glyphLoop, State.dinRead, hd]
    | c :: cs =>
      have hc : (s.setHeld v).setDin cs = (s.setDin cs).setHeld v := rfl
      simp only [glyphLoop, State.dinRead, hd, State.setHeld_din]
      rw [hc]
      simp [ih]

/-! What the loops can write at all: the registers that emitting writes, QF, the DIN stream, what is held, RESULT. -/

theorem wstrChars_frame (cap : Nat) (cs : List Byte) (s : State) :
    ∃ es q, wstrChars cap cs s = (s.emit es).setQf q := by
  induction cs generalizing s with
  | nil => exact ⟨[], s.qf, by simp [wstrChars, State.emit, State.setQf_self]⟩
  | cons c cs ih =>
    obtain ⟨es, q, h⟩ := ih (wstrChar cap c s)
    refine ⟨wstrCharEvents cap c s.addr s.bl s.qf ++ es, q, ?_⟩
    simp only [wstrChars, List.foldl_cons] at h ⊢
    rw [h, wstrChar_eq, State.emit_setQf, State.setQf_setQf, State.emit_append]

theorem wstrLoop_frame (cap : Nat) (len : Half) (n : Nat) (s : State) :
    ∃ es q d h r, wstrLoop cap len n s = ((((s.emit es).setQf q).setDin d).setHeld h).setResult r := by
  by_cases hn : n ≤ s.din.length
  · obtain ⟨es, q, h⟩ := wstrChars_frame cap (s.din.take n) s
    refine ⟨es ++ [.closeTx true], 0#8, s.din.drop n, none, len, ?_⟩
    rw [wstrLoop_enough cap len n s hn, h, wstrFinish, State.emit_append]
    simp only [State.emit_setDin, State.emit_setQf]
    rfl
  · obtain ⟨es, q, h⟩ := wstrChars_frame cap s.din s
    refine ⟨es, q, [], some (.writeString len (n - s.din.length)), s.result, ?_⟩
    rw [wstrLoop_short cap len n s (by omega), h]
    apply State.ext <;> simp

theorem wstrBody_frame (cap : Nat) (len : Half) (s : State) :
    ∃ es q d h r, wstrBody cap len s = ((((s.emit es).setQf q).setDin d).setHeld h).setResult r := by
  by_cases hl : len = 0#16
  · exact ⟨[], s.qf, s.din, s.held, 0#16, by
      simp [wstrBody, hl, State.emit, State.setQf_self, State.setDin_self, State.setHeld_self]⟩
  · obtain ⟨es, q, d, h, r, he⟩ := wstrLoop_frame cap len len.toNat ((s.emit [.openTx s.addr]).setQf 0#8)
    refine ⟨.openTx s.addr :: es, q, d, h, r, ?_⟩
    rw [wstrBody, if_neg hl, he, State.emit_setQf, State.setQf_setQf, ← State.emit_append]
    rfl

theorem glyphLoop_frame (n : Nat) (s : State) :
    ∃ es d h r, glyphLoop n s = (((s.emit es).setDin d).setHeld h).setResult r := by
  by_cases hn : n ≤ s.din.length
  · exact ⟨_, _, _, _, glyphLoop_enough n s hn⟩
  · refine ⟨s.din.flatMap (dataEvents s.addr s.bl), [], some (.defineCustomChar (n - s.din.length)), s.result, ?_⟩
    rw [glyphLoop_short n s (by omega)]
    apply State.ext <;> simp

end Sys2Proof.Machine
end

