-- ==== Sys2Proof/Laws/Encoding.lean ====
section
/-! SUPPORT. Reading a field out of a word that is written as fields side by side. -/

namespace Sys2Proof

/-- The lowest field. -/
theorem extract_append_low {n m : Nat} (a : BitVec n) (b : BitVec m) : (a ++ b).extractLsb' 0 m = b := by
  ext i hi; simp [BitVec.getLsbD_append, hi]

/-- A field that lies inside the lowest field. -/
theorem extract_append_below {n m : Nat} (a : BitVec n) (b : BitVec m) (start len : Nat) (h : start + len ≤ m) :
    (a ++ b).extractLsb' start len = b.extractLsb' start len := by
  ext i hi
  simp [BitVec.getLsbD_append, show start + i < m by omega]

/-- A field that lies above the lowest field. -/
theorem extract_append_above {n m : Nat} (a : BitVec n) (b : BitVec m) (start len : Nat) (h : m ≤ start) :
    (a ++ b).extractLsb' start len = a.extractLsb' (start - m) len := by
  ext i hi
  simp [BitVec.getLsbD_append, show ¬ start + i < m by omega, show start + i - m = start - m + i by omega]

/-- A word cut at bit `m` is the append of its two parts. -/
theorem append_extract {n m : Nat} (w : BitVec (n + m)) : w.extractLsb' m n ++ w.extractLsb' 0 m = w := by
  ext i hi
  simp only [BitVec.getElem_append, BitVec.getElem_extractLsb', Nat.zero_add]
  split
  · exact BitVec.getLsbD_eq_getElem hi
  · rw [show m + (i - m) = i by omega]; exact BitVec.getLsbD_eq_getElem hi

theorem extract_all {n : Nat} (a : BitVec n) : a.extractLsb' 0 n = a := by ext; simp

theorem ofBool_bit (b : Bool) : (BitVec.ofBool b).getLsbD 0 = b := by cases b <;> rfl

/-- A single bit as a field. -/
theorem ofBool_getLsbD {n : Nat} (w : BitVec n) (k : Nat) : BitVec.ofBool (w.getLsbD k) = w.extractLsb' k 1 := by
  ext i hi
  have : i = 0 := by omega
  subst this
  cases h : w.getLsbD k <;> simp [h]

/-- The bits of a word under a mask of `len` ones from bit `start` on are 0 where the field there is 0. -/
theorem and_mask_eq_zero_iff {n : Nat} (w : BitVec n) (start len : Nat) (h : start + len ≤ n) :
    w &&& ((BitVec.allOnes len).setWidth n <<< start) = 0#n ↔ w.extractLsb' start len = 0#len := by
  constructor
  · intro hw
    ext i hi
    have := congrArg (fun v => v.getLsbD (start + i)) hw
    simp [show start + i < n by omega, hi] at this
    have hl : w.getLsbD (start + i) = false := by rw [BitVec.getLsbD_eq_getElem (by omega)]; exact this
    simp [hl]
  · intro hw
    ext i hi
    by_cases hs : start ≤ i ∧ i - start < len
    · have := congrArg (fun v => v.getLsbD (i - start)) hw
      simp [hs.2, show start + (i - start) = i by omega, hi] at this
      simp [this]
    · simp
      intro _ h1
      omega

/-- The top field of a word, as a shift and as a field. -/
theorem shift_toNat_eq_opField (w : ReqWord) : (w >>> 27).toNat = (opField w).toNat := by
  have := w.isLt
  simp [opField, BitVec.toNat_ushiftRight, Nat.shiftRight_eq_div_pow]
  omega

end Sys2Proof
end

