-- ==== Sys2Proof/Laws/Frame.lean ====
section
/-! SUPPORT. What the frame encoder emits: frames never carry the enable bit, a byte is four writes, a transaction has one
Close, and what the observations of a trace read off it. -/

namespace Sys2Proof.Machine

/-- The flag bits of a legal wiring are disjoint from one another and from the nibble's four bits (00_scope.md R8). -/
theorem wiring_bits_disjoint (w : Wiring) (hw : w.wf = true) :
    0xF0#8 &&& w.rs = 0#8 ∧ 0xF0#8 &&& w.en = 0#8 ∧ 0xF0#8 &&& w.blb = 0#8
    ∧ w.rs &&& w.en = 0#8 ∧ w.blb &&& w.en = 0#8 ∧ w.rs &&& w.blb = 0#8 ∧ w.blb &&& w.rs = 0#8
    ∧ 0xF0#8 &&& w.spare = 0#8 ∧ w.rs &&& w.spare = 0#8 ∧ w.blb &&& w.spare = 0#8
    ∧ w.rs ≠ 0#8 ∧ w.en ≠ 0#8 ∧ w.blb ≠ 0#8 := by
  obtain ⟨r, e, b⟩ := w
  revert r e b
  decide

/-- A mask that meets none of the parts of a frame meets none of the frame. -/
theorem buildFrame_and (w : Wiring) (n : Byte) (rs bl : Bool) (m : Byte) :
    buildFrame w n rs bl &&& m
      = (n &&& (0xF0#8 &&& m)) ||| (if rs then w.rs &&& m else 0#8) ||| (if bl then w.blb &&& m else 0#8) := by
  have hd (a b : Byte) : (a ||| b) &&& m = (a &&& m) ||| (b &&& m) := by
    ext i hi; simp; cases a[i] <;> cases b[i] <;> cases m[i] <;> rfl
  cases rs <;> cases bl <;> simp [buildFrame, hd, BitVec.and_assoc]

/-- A frame has its enable bit 0, whatever the wiring (40_frame_encoder.md R100). -/
theorem buildFrame_en (w : Wiring) (hw : w.wf = true) (n : Byte) (rs bl : Bool) : buildFrame w n rs bl &&& w.en = 0#8 := by
  obtain ⟨-, h1, -, h2, h3, -⟩ := wiring_bits_disjoint w hw
  rw [buildFrame_and, h1, h2, h3]
  simp

/-- What is left of a byte when bits it does not have are cleared. -/
theorem clear_of_and_eq_zero (f e : Byte) (h : f &&& e = 0#8) : f &&& ~~~e = f := by
  have h' : f = (f &&& e) ||| (f &&& ~~~e) := by
    ext i hi; simp; cases f[i] <;> cases e[i] <;> rfl
  rw [h] at h'
  simpa using h'.symm

/-- So the low half of a pulse is the frame itself (R101). -/
theorem buildFrame_low (w : Wiring) (hw : w.wf = true) (n : Byte) (rs bl : Bool) :
    buildFrame w n rs bl &&& ~~~w.en = buildFrame w n rs bl :=
  clear_of_and_eq_zero _ _ (buildFrame_en w hw n rs bl)

theorem wiring_wf : Config.wiring.wf = true := by decide

/-- The four writes of a byte (30_encoding.md R83). -/
theorem sendByte_eq (w : Wiring) (hw : w.wf = true) (bl : Bool) (b : Byte) (rs : Bool) :
    sendByte w bl b rs =
      [ .wr (buildFrame w b rs bl ||| w.en), .wr (buildFrame w b rs bl),
        .wr (buildFrame w (b <<< 4) rs bl ||| w.en), .wr (buildFrame w (b <<< 4) rs bl) ] := by
  have h : buildFrame w (b &&& 0xF0#8) rs bl = buildFrame w b rs bl := by
    simp [buildFrame, BitVec.and_assoc]
  simp [sendByte, nibbleOut, pulseEnable, buildFrame_low w hw, h]

theorem closeCount_sendByte (w : Wiring) (bl : Bool) (b : Byte) (rs : Bool) : closeCount (sendByte w bl b rs) = 0 := rfl

theorem txAfter_sendByte (w : Wiring) (bl : Bool) (b : Byte) (rs : Bool) (p : Bool) :
    txAfter p (sendByte w bl b rs) = p := rfl

/-- A transaction of writes has one Close, and leaves no transaction open. -/
theorem closeCount_commandEvents (a : BusAddr) (bl : Bool) (b : Byte) : closeCount (commandEvents a bl b) = 1 := rfl
theorem closeCount_dataEvents (a : BusAddr) (bl : Bool) (b : Byte) : closeCount (dataEvents a bl b) = 1 := rfl
theorem closeCount_nibbleEvents (a : BusAddr) (bl : Bool) (b : Byte) : closeCount (nibbleEvents a bl b) = 1 := rfl
theorem closeCount_backlightEvents (a : BusAddr) (bl : Bool) : closeCount (backlightEvents a bl) = 1 := rfl
theorem txAfter_commandEvents (p : Bool) (a : BusAddr) (bl : Bool) (b : Byte) :
    txAfter p (commandEvents a bl b) = false := rfl
theorem txAfter_dataEvents (p : Bool) (a : BusAddr) (bl : Bool) (b : Byte) : txAfter p (dataEvents a bl b) = false := rfl
theorem txAfter_nibbleEvents (p : Bool) (a : BusAddr) (bl : Bool) (b : Byte) :
    txAfter p (nibbleEvents a bl b) = false := rfl
theorem txAfter_backlightEvents (p : Bool) (a : BusAddr) (bl : Bool) : txAfter p (backlightEvents a bl) = false := rfl

@[simp] theorem busWrites_append (es fs : List Event) : busWrites (es ++ fs) = busWrites es ++ busWrites fs := by
  induction es with
  | nil => rfl
  | cons e es ih => cases e <;> simp [busWrites, ih]

/-- A run of the transaction discipline, cut in two. -/
theorem busRun_append (a : BusAddr) (p : BusPhase) (es fs : List Event) :
    busRun a p (es ++ fs) = (busRun a p es).bind (fun q => busRun a q fs) := by
  induction es generalizing p with
  | nil => rfl
  | cons e es ih =>
    simp only [List.cons_append, busRun]
    cases busPhase a p e with
    | none => rfl
    | some q => simp [ih]

/-- Whole pulses stay whole when more whole pulses follow. -/
theorem pulsesFrom_append (w : Wiring) (due : Option Byte) (es fs : List Event) (he : pulsesFrom w due es = true)
    (hf : pulsesFrom w none fs = true) : pulsesFrom w due (es ++ fs) = true := by
  induction es generalizing due with
  | nil => cases due <;> simp_all [pulsesFrom]
  | cons e es ih => cases due <;> cases e <;> simp_all [pulsesFrom]

end Sys2Proof.Machine
end

