-- ==== Sys2Proof/Laws/Operands.lean ====
section
/-! SUPPORT. What the operand and flag computations give, each said once. -/

namespace Sys2Proof.Machine

/-- The row table is four entries and nothing past them (10_state.md R22). -/
theorem RowTab.get_eq (t : RowTab) (r : Byte) : t.get r = [t.r0, t.r1, t.r2, t.r3][r.toNat]? := by
  unfold RowTab.get
  split <;> simp_all
  omega

/-- Row 0 is in every table and is never clamped: what the OLED re-home sends (43_control_ops.md R160). -/
theorem cursorAddress_home (rows : Byte) (tab : RowTab) : cursorAddress rows tab 0#8 0#8 = some tab.r0 := by
  simp [cursorAddress, clampRow, RowTab.get]

/-- The clamped row as a number (43_control_ops.md R162). -/
theorem clampRow_toNat (rows row : Byte) :
    (clampRow rows row).toNat = if row.toNat > rows.toNat then (rows.toNat + 255) % 256 else row.toNat := by
  simp only [clampRow, gt_iff_lt, BitVec.lt_def]
  split
  · simp [BitVec.toNat_sub]; omega
  · rfl

/-- The set-CGRAM byte of a slot: its address is 8 times the slot modulo 8 (42_byte_ops.md R144). -/
theorem setCgramByte_eq (slot : Byte) :
    setCgramByte slot = Config.codes.setCgramAddr ||| BitVec.ofNat 8 (8 * (slot.toNat % 8)) := by
  revert slot; decide

/-- The reserved bits of the mirror registers stay 0 (10_state.md R23 to R25). -/
theorem functionFlags_bits (rows : Byte) (font : Bool) : functionFlags rows font &&& 0xF3#8 = 0#8 := by
  have h (a b : Bool) : ((if a then Config.codes.f2Line else 0#8) ||| (if b then Config.codes.f5x10 else 0#8)) &&& 0xF3#8
      = 0#8 := by revert a b; decide
  have := h (decide (rows > 1#8)) (font && (rows == 1#8 || !Config.fontOneLineOnly))
  simpa [functionFlags] using this

theorem setFlag_bits (reg flag m : Byte) (h : reg &&& m = 0#8) (hf : flag &&& m = 0#8) : setFlag reg flag &&& m = 0#8 := by
  have hd : (reg ||| flag) &&& m = (reg &&& m) ||| (flag &&& m) := by
    ext i hi; simp; cases reg[i] <;> cases flag[i] <;> cases m[i] <;> rfl
  simp [setFlag, hd, h, hf]

theorem clearFlag_bits (reg flag m : Byte) (h : reg &&& m = 0#8) : clearFlag reg flag &&& m = 0#8 := by
  have hd : (reg &&& ~~~flag) &&& m = (reg &&& m) &&& ~~~flag := by
    ext i hi; simp; cases reg[i] <;> cases flag[i] <;> cases m[i] <;> rfl
  simp [clearFlag, hd, h]

/-- CAP_FRAMES is twice a number from 1 to 127 (00_scope.md R7; log 3). -/
theorem capFrames_form : ∃ k, Config.capFrames = 2 * k ∧ 1 ≤ k ∧ k ≤ 127 := by
  refine ⟨Config.capIndex.val + 1, rfl, by omega, ?_⟩
  have := Config.capIndex.isLt
  omega

end Sys2Proof.Machine
end

