-- ==== Sys2Proof/Laws/PerInstr.lean ====
section
/-! SUPPORT. A family of statements about each instruction as syntax: its request word is a legal word (30_encoding.md R71 to
R80). -/

namespace Sys2Proof

/-- A legal word, said by its fields. -/
theorem legalWord_of_fields (w : ReqWord) (f : Format) (start len : Nat) (h : start + len ≤ 32)
    (hf : formatOf (opField w).toNat = some f)
    (hm : f.mustBeZero = (BitVec.allOnes len).setWidth 32 <<< start) (hz : w.extractLsb' start len = 0#len)
    (hl : opField w ≠ 26#5) : legalWord w = true := by
  have h26 : w >>> 27 ≠ 26#32 := by
    intro hw
    have := shift_toNat_eq_opField w
    rw [hw] at this
    exact hl (BitVec.eq_of_toNat_eq this.symm)
  rw [legalWord, shift_toNat_eq_opField, hf]
  simp [hm, (and_mask_eq_zero_iff w start len h).2 hz, h26]

namespace Laws.EncodesLegal

/-- The request word of the instruction is legal. -/
def Statement (i : Instr) : Prop := legalWord (encode i) = true

theorem init (a : BusAddr) (cols rows : Byte) (font oled : Bool) : Statement (.init a cols rows font oled) := by
  have ho : opField (encode (.init a cols rows font oled)) = 1#5 := by
    simp only [encode, encodeI, opField]
    rw [extract_append_above _ _ _ _ (by omega), extract_append_above _ _ _ _ (by omega),
      extract_append_above _ _ _ _ (by omega), extract_append_above _ _ _ _ (by omega),
      extract_append_above _ _ _ _ (by omega), extract_append_above _ _ _ _ (by omega), extract_all]
  refine legalWord_of_fields _ .i 25 2 (by omega) (by rw [ho]; rfl) (by decide) ?_ (by rw [ho]; decide)
  simp only [encode, encodeI]
  rw [extract_append_above _ _ _ _ (by omega), extract_append_above _ _ _ _ (by omega),
    extract_append_above _ _ _ _ (by omega), extract_append_above _ _ _ _ (by omega),
    extract_append_above _ _ _ _ (by omega), extract_append_low]

theorem command (b : Byte) : Statement (.command b) := by revert b; unfold Statement; decide
theorem writeChar (b : Byte) : Statement (.writeChar b) := by revert b; unfold Statement; decide

theorem writeString (len : Half) : Statement (.writeString len) := by
  have ho : opField (encode (.writeString len)) = 4#5 := by
    simp only [encode, encodeL, opField]
    rw [extract_append_above _ _ _ _ (by omega), extract_append_above _ _ _ _ (by omega), extract_all]
  refine legalWord_of_fields _ .l 16 11 (by omega) (by rw [ho]; rfl) (by decide) ?_ (by rw [ho]; decide)
  simp only [encode, encodeL]
  rw [extract_append_above _ _ _ _ (by omega), extract_append_low]

theorem clear : Statement .clear := rfl
theorem home : Statement .home := rfl

theorem setCursor (col row : Byte) : Statement (.setCursor col row) := by
  have ho : opField (encode (.setCursor col row)) = 7#5 := by
    simp only [encode, encodeP, opField]
    rw [extract_append_above _ _ _ _ (by omega), extract_append_above _ _ _ _ (by omega),
      extract_append_above _ _ _ _ (by omega), extract_all]
  refine legalWord_of_fields _ .p 16 11 (by omega) (by rw [ho]; rfl) (by decide) ?_ (by rw [ho]; decide)
  simp only [encode, encodeP]
  rw [extract_append_above _ _ _ _ (by omega), extract_append_above _ _ _ _ (by omega), extract_append_low]

theorem display : Statement .display := rfl
theorem noDisplay : Statement .noDisplay := rfl
theorem cursor : Statement .cursor := rfl
theorem noCursor : Statement .noCursor := rfl
theorem blink : Statement .blink := rfl
theorem noBlink : Statement .noBlink := rfl
theorem scrollLeft : Statement .scrollLeft := rfl
theorem scrollRight : Statement .scrollRight := rfl
theorem moveCursorLeft : Statement .moveCursorLeft := rfl
theorem moveCursorRight : Statement .moveCursorRight := rfl
theorem setTextDirectionLtr : Statement .setTextDirectionLtr := rfl
theorem setTextDirectionRtl : Statement .setTextDirectionRtl := rfl
theorem autoscroll : Statement .autoscroll := rfl
theorem noAutoscroll : Statement .noAutoscroll := rfl

theorem defineCustomChar (slot : Byte) (src : Bool) : Statement (.defineCustomChar slot src) := by
  revert slot src; unfold Statement; decide

theorem backlightOn : Statement .backlightOn := rfl
theorem backlightOff : Statement .backlightOff := rfl
theorem setBacklight (v : Bool) : Statement (.setBacklight v) := by cases v <;> rfl
theorem legacyStatus : Statement .legacyStatus := rfl
theorem legacyKeypad : Statement .legacyKeypad := rfl
theorem legacyBargraph : Statement .legacyBargraph := rfl
theorem legacyContrast : Statement .legacyContrast := rfl
theorem legacyDelay : Statement .legacyDelay := rfl

end Laws.EncodesLegal

end Sys2Proof
end

