-- ==== Sys2Proof/Laws/Sequencer.lean ====
section
/-! SUPPORT. What the power-up sequencer does as a whole: its phases are one run of events with SEQ at the last label. -/

namespace Sys2Proof.Machine

theorem State.runPhases_eq (s : State) (ps : List (BitVec 4 × List Event)) :
    s.runPhases ps = (s.emit (phaseEvents ps)).setSeq ((ps.map Prod.fst).getLastD s.seq) := by
  induction ps generalizing s with
  | nil => rfl
  | cons p ps ih =>
    obtain ⟨q, es⟩ := p
    simp only [State.runPhases, ih, phaseEvents, List.flatMap_cons, State.emit_append, State.emit_setSeq]
    cases ps <;> simp [List.getLastD, State.setSeq]

/-- The OLED re-home sends the start of row 0. -/
theorem rehomeEvents_eq (s : State) : rehomeEvents s = commandEvents s.addr s.bl (setDdramByte s.rowtab.r0) := by
  simp [rehomeEvents, cursorAddress_home]

/-- The registers of an accepted INIT, its events, its acknowledges: everything it does. -/
theorem initBody_eq (bl : Bool) (a : BusAddr) (cols rows : Byte) (font oled : Bool) (s : State) :
    initBody bl a cols rows font oled s =
      (let s0 := (s.configure bl a cols rows font oled).initMirrors
       let es := phaseEvents (initPhases s0)
       (((s0.emit es).setSeq seqHomed).setFailed (s.failed || s0.nacked es)).setResult 0#16) := by
  simp only [initBody, State.runPhases_eq, State.setSeq_failed, State.emit_failed]
  rfl

end Sys2Proof.Machine
end

