-- ==== Sys2Proof/Laws/Steady.lean ====
section
/-! SUPPORT. The guard of the steady-state requests, said once: `exec` of one is the guard in front of what the accepted
request does. -/

namespace Sys2Proof.Machine

/-- What an accepted steady-state request does: its meaning without the guard. -/
def accepted (i : Instr) (s : State) : Host.Outcome State Fault Refusal :=
  match i with
  | .command b => perform (commandEvents s.addr s.bl b) 0#16 s
  | .writeChar b => perform (dataEvents s.addr s.bl b) 1#16 s
  | .writeString len => .next (wstrBody Config.capFrames len s)
  | .clear => perform (clearEvents s) 0#16 s
  | .home => perform (homeEvents s) 0#16 s
  | .setCursor col row =>
    match cursorAddress s.rows s.rowtab col row with
    | none => refuse .rowOob s
    | some address => perform (commandEvents s.addr s.bl (setDdramByte address)) 0#16 s
  | .display => updateDisplayControl (setFlag s.dctrl Config.codes.dOn) s
  | .noDisplay => updateDisplayControl (clearFlag s.dctrl Config.codes.dOn) s
  | .cursor => updateDisplayControl (setFlag s.dctrl Config.codes.cOn) s
  | .noCursor => updateDisplayControl (clearFlag s.dctrl Config.codes.cOn) s
  | .blink => updateDisplayControl (setFlag s.dctrl Config.codes.bOn) s
  | .noBlink => updateDisplayControl (clearFlag s.dctrl Config.codes.bOn) s
  | .scrollLeft => sendShift true false s
  | .scrollRight => sendShift true true s
  | .moveCursorLeft => sendShift false false s
  | .moveCursorRight => sendShift false true s
  | .setTextDirectionLtr => updateEntryMode (setFlag s.emode Config.codes.eLeft) s
  | .setTextDirectionRtl => updateEntryMode (clearFlag s.emode Config.codes.eLeft) s
  | .autoscroll => updateEntryMode (setFlag s.emode Config.codes.eShift) s
  | .noAutoscroll => updateEntryMode (clearFlag s.emode Config.codes.eShift) s
  | .defineCustomChar slot _ =>
    .next (glyphLoop Config.cgRows (s.emit (commandEvents s.addr s.bl (setCgramByte slot))))
  | .backlightOn => updateBacklight true s
  | .backlightOff => updateBacklight false s
  | .setBacklight v => updateBacklight v s
  | .init _ _ _ _ _ | .legacyStatus | .legacyKeypad | .legacyBargraph | .legacyContrast | .legacyDelay => .next s

theorem exec_steady (i : Instr) (hi : i.steady = true) (s : State) : exec i s = guardSteady s (accepted i) := by
  cases i <;> first | rfl | simp [Instr.steady] at hi

theorem guardSteady_failed (s : State) (k : State → Host.Outcome State Fault Refusal) (h : s.failed = true) :
    guardSteady s k = refuse .handleFailed s := if_pos h

theorem guardSteady_unready (s : State) (k : State → Host.Outcome State Fault Refusal) (h : s.failed = false)
    (hs : s.seq ≠ seqHomed) : guardSteady s k = refuse .notInit s := by
  simp [guardSteady, h, hs]

theorem guardSteady_ready (s : State) (k : State → Host.Outcome State Fault Refusal) (h : s.failed = false)
    (hs : s.seq = seqHomed) : guardSteady s k = k s := by
  simp [guardSteady, h, hs]

/-- A steady-state request is refused, or it runs on a ready handle. -/
theorem exec_steady_cases (i : Instr) (hi : i.steady = true) (s : State) :
    (s.failed = true ∧ exec i s = refuse .handleFailed s)
    ∨ (s.failed = false ∧ s.seq ≠ seqHomed ∧ exec i s = refuse .notInit s)
    ∨ (s.failed = false ∧ s.seq = seqHomed ∧ exec i s = accepted i s) := by
  rw [exec_steady i hi]
  by_cases hf : s.failed = true
  · exact .inl ⟨hf, guardSteady_failed s _ hf⟩
  · have hf : s.failed = false := by simpa using hf
    by_cases hs : s.seq = seqHomed
    · exact .inr (.inr ⟨hf, hs, guardSteady_ready s _ hf hs⟩)
    · exact .inr (.inl ⟨hf, hs, guardSteady_unready s _ hf hs⟩)

/-- The accepted requests that read no input: SETCUR may be refused with ROW_OOB; every other request emits its events and
sets RESULT, after writing at most one of DCTRL, EMODE and BL. -/
theorem accepted_cases (i : Instr) (hi : i.steady = true) (s : State) :
    (∃ len, i = .writeString len) ∨ (∃ slot src, i = .defineCustomChar slot src)
    ∨ (accepted i s = refuse .rowOob s ∧ ∃ col row, i = .setCursor col row ∧ cursorAddress s.rows s.rowtab col row = none)
    ∨ (∃ b v, accepted i s = perform (commandEvents s.addr s.bl b) v s)
    ∨ (∃ b v, accepted i s = perform (dataEvents s.addr s.bl b) v s)
    ∨ (i = .clear ∧ accepted i s = perform (clearEvents s) 0#16 s)
    ∨ (i = .home ∧ accepted i s = perform (homeEvents s) 0#16 s)
    ∨ (∃ d, accepted i s = updateDisplayControl d s
        ∧ ∃ f ∈ [Config.codes.dOn, Config.codes.cOn, Config.codes.bOn], d = setFlag s.dctrl f ∨ d = clearFlag s.dctrl f)
    ∨ (∃ e, accepted i s = updateEntryMode e s
        ∧ ∃ f ∈ [Config.codes.eLeft, Config.codes.eShift], e = setFlag s.emode f ∨ e = clearFlag s.emode f)
    ∨ (∃ v, accepted i s = updateBacklight v s) := by
  cases i
  case setCursor col row =>
    cases h : cursorAddress s.rows s.rowtab col row with
    | none => simp [accepted, h]
    | some address => exact .inr (.inr (.inr (.inl ⟨setDdramByte address, 0#16, by simp [accepted, h]⟩)))
  case init => simp [Instr.steady] at hi
  case legacyStatus => simp [Instr.steady] at hi
  case legacyKeypad => simp [Instr.steady] at hi
  case legacyBargraph => simp [Instr.steady] at hi
  case legacyContrast => simp [Instr.steady] at hi
  case legacyDelay => simp [Instr.steady] at hi
  case writeString len => exact .inl ⟨len, rfl⟩
  case defineCustomChar slot src => exact .inr (.inl ⟨slot, src, rfl⟩)
  case clear => exact .inr (.inr (.inr (.inr (.inr (.inl ⟨rfl, rfl⟩)))))
  case home => exact .inr (.inr (.inr (.inr (.inr (.inr (.inl ⟨rfl, rfl⟩))))))
  case writeChar b => exact .inr (.inr (.inr (.inr (.inl ⟨b, 1#16, rfl⟩))))
  case command b => exact .inr (.inr (.inr (.inl ⟨b, 0#16, rfl⟩)))
  case scrollLeft => exact .inr (.inr (.inr (.inl ⟨_, 0#16, rfl⟩)))
  case scrollRight => exact .inr (.inr (.inr (.inl ⟨_, 0#16, rfl⟩)))
  case moveCursorLeft => exact .inr (.inr (.inr (.inl ⟨_, 0#16, rfl⟩)))
  case moveCursorRight => exact .inr (.inr (.inr (.inl ⟨_, 0#16, rfl⟩)))
  case backlightOn => exact .inr (.inr (.inr (.inr (.inr (.inr (.inr (.inr (.inr ⟨_, rfl⟩))))))))
  case backlightOff => exact .inr (.inr (.inr (.inr (.inr (.inr (.inr (.inr (.inr ⟨_, rfl⟩))))))))
  case setBacklight v => exact .inr (.inr (.inr (.inr (.inr (.inr (.inr (.inr (.inr ⟨_, rfl⟩))))))))
  case display =>
    exact .inr (.inr (.inr (.inr (.inr (.inr (.inr (.inl ⟨setFlag s.dctrl Config.codes.dOn, rfl, Config.codes.dOn, by decide, .inl rfl⟩)))))))
  case noDisplay =>
    exact .inr (.inr (.inr (.inr (.inr (.inr (.inr (.inl ⟨clearFlag s.dctrl Config.codes.dOn, rfl, Config.codes.dOn, by decide, .inr rfl⟩)))))))
  case cursor =>
    exact .inr (.inr (.inr (.inr (.inr (.inr (.inr (.inl ⟨setFlag s.dctrl Config.codes.cOn, rfl, Config.codes.cOn, by decide, .inl rfl⟩)))))))
  case noCursor =>
    exact .inr (.inr (.inr (.inr (.inr (.inr (.inr (.inl ⟨clearFlag s.dctrl Config.codes.cOn, rfl, Config.codes.cOn, by decide, .inr rfl⟩)))))))
  case blink =>
    exact .inr (.inr (.inr (.inr (.inr (.inr (.inr (.inl ⟨setFlag s.dctrl Config.codes.bOn, rfl, Config.codes.bOn, by decide, .inl rfl⟩)))))))
  case noBlink =>
    exact .inr (.inr (.inr (.inr (.inr (.inr (.inr (.inl ⟨clearFlag s.dctrl Config.codes.bOn, rfl, Config.codes.bOn, by decide, .inr rfl⟩)))))))
  case setTextDirectionLtr =>
    exact .inr (.inr (.inr (.inr (.inr (.inr (.inr (.inr (.inl ⟨setFlag s.emode Config.codes.eLeft, rfl, Config.codes.eLeft, by decide, .inl rfl⟩))))))))
  case setTextDirectionRtl =>
    exact .inr (.inr (.inr (.inr (.inr (.inr (.inr (.inr (.inl ⟨clearFlag s.emode Config.codes.eLeft, rfl, Config.codes.eLeft, by decide, .inr rfl⟩))))))))
  case autoscroll =>
    exact .inr (.inr (.inr (.inr (.inr (.inr (.inr (.inr (.inl ⟨setFlag s.emode Config.codes.eShift, rfl, Config.codes.eShift, by decide, .inl rfl⟩))))))))
  case noAutoscroll =>
    exact .inr (.inr (.inr (.inr (.inr (.inr (.inr (.inr (.inl ⟨clearFlag s.emode Config.codes.eShift, rfl, Config.codes.eShift, by decide, .inr rfl⟩))))))))

end Sys2Proof.Machine
end

