-- ==== Sys2Proof/Laws/Step.lean ====
section
/-! SUPPORT. What a request and a step can do, said once: the cases `ExecCase` and `StepCase`, and for each the registers it
can write. -/

namespace Sys2Proof.Machine

/-- An accepted steady-state request is a SETCUR refused with ROW_OOB, or writes at most what emitting writes and QF, DIN, what is
held, RESULT, DCTRL, EMODE, BL. -/
theorem accepted_frame (i : Instr) (hi : i.steady = true) (s : State) :
    (accepted i s = refuse .rowOob s ∧ ∃ col row, i = .setCursor col row ∧ cursorAddress s.rows s.rowtab col row = none)
    ∨ ∃ es q d h r dc em b, accepted i s =
        .next ((((((((s.emit es).setQf q).setDin d).setHeld h).setResult r).setDctrl dc).setEmode em).setBl b) := by
  rcases accepted_cases i hi s with ⟨len, rfl⟩ | ⟨slot, src, rfl⟩ | h | ⟨b, v, h⟩ | ⟨b, v, h⟩ | ⟨-, h⟩ | ⟨-, h⟩
    | ⟨d, h, -⟩ | ⟨d, h, -⟩ | ⟨v, h⟩
  · obtain ⟨es, q, d, h, r, he⟩ := wstrBody_frame Config.capFrames len s
    refine .inr ⟨es, q, d, h, r, s.dctrl, s.emode, s.bl, ?_⟩
    simp only [accepted, he]
    refine congrArg Host.Outcome.next ?_
    apply State.ext <;> simp
  · obtain ⟨es, d, h, r, he⟩ := glyphLoop_frame Config.cgRows (s.emit (commandEvents s.addr s.bl (setCgramByte slot)))
    refine .inr ⟨commandEvents s.addr s.bl (setCgramByte slot) ++ es, s.qf, d, h, r, s.dctrl, s.emode, s.bl, ?_⟩
    simp only [accepted, he, ← State.emit_append]
    refine congrArg Host.Outcome.next ?_
    apply State.ext <;> simp
  · exact .inl h
  · refine .inr ⟨commandEvents s.addr s.bl b, s.qf, s.din, s.held, v, s.dctrl, s.emode, s.bl, ?_⟩
    rw [h, perform]
    refine congrArg Host.Outcome.next ?_
    apply State.ext <;> simp
  · refine .inr ⟨dataEvents s.addr s.bl b, s.qf, s.din, s.held, v, s.dctrl, s.emode, s.bl, ?_⟩
    rw [h, perform]
    refine congrArg Host.Outcome.next ?_
    apply State.ext <;> simp
  · refine .inr ⟨clearEvents s, s.qf, s.din, s.held, 0#16, s.dctrl, s.emode, s.bl, ?_⟩
    rw [h, perform]
    refine congrArg Host.Outcome.next ?_
    apply State.ext <;> simp
  · refine .inr ⟨homeEvents s, s.qf, s.din, s.held, 0#16, s.dctrl, s.emode, s.bl, ?_⟩
    rw [h, perform]
    refine congrArg Host.Outcome.next ?_
    apply State.ext <;> simp
  · refine .inr ⟨commandEvents s.addr s.bl (displayControlByte d), s.qf, s.din, s.held, 0#16, d, s.emode, s.bl, ?_⟩
    rw [h, updateDisplayControl, perform]
    refine congrArg Host.Outcome.next ?_
    apply State.ext <;> simp
  · refine .inr ⟨commandEvents s.addr s.bl (entryModeByte d), s.qf, s.din, s.held, 0#16, s.dctrl, d, s.bl, ?_⟩
    rw [h, updateEntryMode, perform]
    refine congrArg Host.Outcome.next ?_
    apply State.ext <;> simp
  · refine .inr ⟨backlightEvents s.addr v, s.qf, s.din, s.held, 0#16, s.dctrl, s.emode, v, ?_⟩
    rw [h, updateBacklight, perform]
    refine congrArg Host.Outcome.next ?_
    apply State.ext <;> simp

/-- The cases of a request that answers a next state. -/
inductive ExecCase (i : Instr) (s t : State) : Prop
  /-- It is refused. -/
  | refused (c : Fault) (h : t = s.raiseFault c)
  /-- It is a legacy stub. -/
  | legacy (hs : i.steady = false) (hn : ∀ a cols rows font oled, i ≠ .init a cols rows font oled)
      (h : t = s.setResult 0#16)
  /-- It is an accepted INIT. -/
  | init (a : BusAddr) (cols rows : Byte) (font oled : Bool) (hi : i = .init a cols rows font oled)
      (h0 : s.seq = seqUnpowered) (h : t = initBody (Config.blInit oled) a cols rows font oled s)
  /-- It is an accepted steady-state request. -/
  | steady (hi : i.steady = true) (hf : s.failed = false) (hs : s.seq = seqHomed) (h : accepted i s = .next t)

theorem exec_cases (i : Instr) (s t : State) (h : exec i s = .next t) : ExecCase i s t := by
  by_cases hi : i.steady = true
  · rcases exec_steady_cases i hi s with ⟨-, h'⟩ | ⟨-, -, h'⟩ | ⟨h1, h2, h'⟩
    · rw [h] at h'; cases h'; exact .refused _ rfl
    · rw [h] at h'; cases h'; exact .refused _ rfl
    · rw [h] at h'; exact .steady hi h1 h2 h'.symm
  · cases i <;> simp [Instr.steady] at hi <;>
      first
      | exact .legacy rfl (by simp) (by injection h with h; exact h.symm)
      | skip
    simp only [exec, execInit] at h
    split at h
    · injection h with h; exact .refused _ h.symm
    · next h0 => injection h with h; exact .init _ _ _ _ _ rfl (by simpa using h0) h.symm

/-- The cases of a step that answers a next state. -/
inductive StepCase (s t : State) : Prop
  /-- A held request goes on. -/
  | held (h : Held) (hh : s.held = some h) (he : resumeHeld h s = .next t)
  /-- The block waits for the host. -/
  | idle (hh : s.held = none) (hr : s.requests = []) (h : t = s)
  /-- The word taken is illegal. -/
  | illegal (w : ReqWord) (ws : List ReqWord) (r : Reject) (hh : s.held = none) (hr : s.requests = w :: ws)
      (hd : decode w = .error r) (h : t = (s.setRequests ws).raiseFault .illegalReq)
  /-- The request taken is performed. -/
  | run (w : ReqWord) (ws : List ReqWord) (i : Instr) (hh : s.held = none) (hr : s.requests = w :: ws)
      (hd : decode w = .ok i) (h : exec i (s.setRequests ws) = .next t)

theorem step_cases (s t : State) (h : step s = .next t) : StepCase s t := by
  simp only [step] at h
  split at h
  · next x hx => exact .held x hx h
  · next hx =>
    cases hr : s.requests with
    | nil =>
      simp only [State.takeRequest, hr, Machine.idle] at h
      injection h with h
      exact .idle hx hr h.symm
    | cons w ws =>
      simp only [State.takeRequest, hr] at h
      split at h
      · next hd => exact .run w ws _ hx hr hd h
      · next hd => injection h with h; exact .illegal w ws _ hx hr hd h.symm

/-- A held request that goes on writes at most what emitting writes and QF, DIN, what is held, RESULT. -/
theorem resumeHeld_frame (x : Held) (s t : State) (h : resumeHeld x s = .next t) :
    ∃ es q d h r, t = ((((s.emit es).setQf q).setDin d).setHeld h).setResult r := by
  cases x with
  | writeString len left =>
    obtain ⟨es, q, d, x, r, he⟩ := wstrLoop_frame Config.capFrames len left s
    simp only [resumeHeld] at h
    injection h with h
    exact ⟨es, q, d, x, r, by rw [← h, he]⟩
  | defineCustomChar left =>
    obtain ⟨es, d, x, r, he⟩ := glyphLoop_frame left s
    simp only [resumeHeld] at h
    injection h with h
    refine ⟨es, s.qf, d, x, r, ?_⟩
    rw [← h, he]
    apply State.ext <;> simp

end Sys2Proof.Machine
end

