-- ==== Sys2Proof/Tests/Slice0.lean ====
section
/-! SUPPORT. Small tests. Expected values come from spec/: the encodings of 30_encoding.md, the worked values of each rule, and
95_test_vectors.md, as each comment says. The last part gives, for each obligation with hypotheses, a state and operands that
meet them (`witness_<name>`). -/

namespace Sys2Proof.Tests

open Sys2Proof.Machine Sys2Proof.Claims

/-! ### Encodings: each word written field by field from the format of its row (30_encoding.md R71 to R79) -/

theorem test_decode_init : decode (0b00001#5 ++ 0b00#2 ++ 0b0#1 ++ 0b1#1 ++ 0b0100111#7 ++ 0b00000001#8 ++ 0b00010000#8)
    = .ok (.init 0x27#7 16#8 1#8 true false) := rfl
theorem test_decode_init_oled : decode (0b00001#5 ++ 0b00#2 ++ 0b1#1 ++ 0b0#1 ++ 0b0100111#7 ++ 0b00000010#8 ++ 0b00010000#8)
    = .ok (.init 0x27#7 16#8 2#8 false true) := rfl
theorem test_decode_command : decode (0b00010#5 ++ 0b0000000000000000000#19 ++ 0b00101000#8) = .ok (.command 0x28#8) := rfl
theorem test_decode_writeChar : decode (0b00011#5 ++ 0b0000000000000000000#19 ++ 0b01000001#8) = .ok (.writeChar 0x41#8) := rfl
theorem test_decode_writeString : decode (0b00100#5 ++ 0b00000000000#11 ++ 0b0000000000001001#16) = .ok (.writeString 9#16) := rfl
theorem test_decode_setCursor : decode (0b00111#5 ++ 0b00000000000#11 ++ 0b00000001#8 ++ 0b00000011#8) = .ok (.setCursor 3#8 1#8) := rfl
theorem test_decode_defineCustomChar : decode (0b10110#5 ++ 0b000000000000000000#18 ++ 0b1#1 ++ 0b00000111#8)
    = .ok (.defineCustomChar 7#8 true) := rfl
theorem test_decode_setBacklight : decode (0b11001#5 ++ 0b00000000000000000000000000#26 ++ 0b1#1) = .ok (.setBacklight true) := rfl
theorem test_decode_clear : decode (0b00101#5 ++ 0#27) = .ok .clear := rfl
theorem test_decode_home : decode (0b00110#5 ++ 0#27) = .ok .home := rfl
theorem test_decode_display : decode (0b01000#5 ++ 0#27) = .ok .display := rfl
theorem test_decode_noDisplay : decode (0b01001#5 ++ 0#27) = .ok .noDisplay := rfl
theorem test_decode_cursor : decode (0b01010#5 ++ 0#27) = .ok .cursor := rfl
theorem test_decode_noCursor : decode (0b01011#5 ++ 0#27) = .ok .noCursor := rfl
theorem test_decode_blink : decode (0b01100#5 ++ 0#27) = .ok .blink := rfl
theorem test_decode_noBlink : decode (0b01101#5 ++ 0#27) = .ok .noBlink := rfl
theorem test_decode_scrollLeft : decode (0b01110#5 ++ 0#27) = .ok .scrollLeft := rfl
theorem test_decode_scrollRight : decode (0b01111#5 ++ 0#27) = .ok .scrollRight := rfl
theorem test_decode_moveCursorLeft : decode (0b10000#5 ++ 0#27) = .ok .moveCursorLeft := rfl
theorem test_decode_moveCursorRight : decode (0b10001#5 ++ 0#27) = .ok .moveCursorRight := rfl
theorem test_decode_setTextDirectionLtr : decode (0b10010#5 ++ 0#27) = .ok .setTextDirectionLtr := rfl
theorem test_decode_setTextDirectionRtl : decode (0b10011#5 ++ 0#27) = .ok .setTextDirectionRtl := rfl
theorem test_decode_autoscroll : decode (0b10100#5 ++ 0#27) = .ok .autoscroll := rfl
theorem test_decode_noAutoscroll : decode (0b10101#5 ++ 0#27) = .ok .noAutoscroll := rfl
theorem test_decode_backlightOn : decode (0b10111#5 ++ 0#27) = .ok .backlightOn := rfl
theorem test_decode_backlightOff : decode (0b11000#5 ++ 0#27) = .ok .backlightOff := rfl
theorem test_decode_legacyStatus : decode (0b11010#5 ++ 0#19 ++ 0b00000000#8) = .ok .legacyStatus := rfl
theorem test_decode_legacyKeypad : decode (0b11010#5 ++ 0#19 ++ 0b00000001#8) = .ok .legacyKeypad := rfl
theorem test_decode_legacyBargraph : decode (0b11010#5 ++ 0#19 ++ 0b00000010#8) = .ok .legacyBargraph := rfl
theorem test_decode_legacyContrast : decode (0b11010#5 ++ 0#19 ++ 0b00000011#8) = .ok .legacyContrast := rfl
theorem test_decode_legacyDelay : decode (0b11010#5 ++ 0#19 ++ 0b00000100#8) = .ok .legacyDelay := rfl

/-- 95_test_vectors.md L1 and L2: words given there. -/
theorem test_encode_spec_words :
    [Instr.init 0x27#7 20#8 4#8 true false, .setCursor 19#8 3#8, .writeString 2#16, .defineCustomChar 7#8 true].map encode
      = [0x08A70414#32, 0x38000313#32, 0x20000002#32, 0xB0000107#32] := by decide
/-- The table numbers a word's bits from its least significant one. -/
theorem test_decodeTableWord : decodeTableWord 32 0x38000103 = some (.setCursor 3#8 1#8)
    ∧ decodeTableWord 32 0x00000000 = none := by decide

/-! ### Ill-formed terms, refused by the check and by the decoder (30_encoding.md R80, R93) -/

theorem test_illegal_reserved_low : legalWord 0x00000000#32 = false ∧ decode 0x00000000#32 = .error .reservedOp := ⟨rfl, rfl⟩
theorem test_illegal_reserved_high : legalWord 0xD8000000#32 = false ∧ decode 0xF8000000#32 = .error .reservedOp := ⟨rfl, rfl⟩
theorem test_illegal_format_n : legalWord 0x28000001#32 = false ∧ decode 0x28000001#32 = .error .mustBeZero := ⟨rfl, rfl⟩
theorem test_illegal_format_b : legalWord 0x10000100#32 = false ∧ decode 0x10000100#32 = .error .mustBeZero := ⟨rfl, rfl⟩
theorem test_illegal_format_i : legalWord 0x0A270210#32 = false ∧ decode 0x0A270210#32 = .error .mustBeZero := ⟨rfl, rfl⟩
theorem test_illegal_format_p : legalWord 0x38010000#32 = false ∧ decode 0x38010000#32 = .error .mustBeZero := ⟨rfl, rfl⟩
theorem test_illegal_format_l : legalWord 0x24000000#32 = false ∧ decode 0x24000000#32 = .error .mustBeZero := ⟨rfl, rfl⟩
theorem test_illegal_format_s : legalWord 0xB0000200#32 = false ∧ decode 0xB0000200#32 = .error .mustBeZero := ⟨rfl, rfl⟩
theorem test_illegal_format_v : legalWord 0xC8000002#32 = false ∧ decode 0xC8000002#32 = .error .mustBeZero := ⟨rfl, rfl⟩
theorem test_illegal_legacy_id : legalWord 0xD0000005#32 = false ∧ decode 0xD0000005#32 = .error .legacyId := ⟨rfl, rfl⟩

theorem test_illformed_init : (SourceRequest.init 128 16 2 0 none).wf = false
    ∧ (SourceRequest.init 39 256 2 0 none).wf = false ∧ (SourceRequest.init 39 16 256 0 none).wf = false
    ∧ (SourceRequest.init 39 16 2 0 (some 2)).wf = false := by decide
theorem test_illformed_bytes : (SourceRequest.command 256).wf = false ∧ (SourceRequest.writeChar 256).wf = false
    ∧ (SourceRequest.createChar 256).wf = false ∧ (SourceRequest.createCharP 256).wf = false := by decide
theorem test_illformed_writeString : (SourceRequest.writeString 65536).wf = false := by decide
theorem test_illformed_writeBuffer : (SourceRequest.writeBuffer [0x48#8]).wf = false := by decide
theorem test_illformed_setCursor : (SourceRequest.setCursor 256 0).wf = false ∧ (SourceRequest.setCursor 0 256).wf = false := by
  decide
theorem test_illformed_defineCustomChar : (SourceRequest.defineCustomChar 256 none).wf = false
    ∧ (SourceRequest.defineCustomChar 0 (some 2)).wf = false := by decide
theorem test_illformed_legacy : (SourceRequest.legacy 5).wf = false := by decide
theorem test_illformed_plain : (SourceRequest.plain 7).wf = false ∧ (SourceRequest.plain 27).wf = false := by decide
/-- R94: the buffer's length is the count of bytes before its first 0 byte. -/
theorem test_assemble_writeBuffer :
    assemble (.writeBuffer [0x48#8, 0x49#8, 0#8, 0x4A#8]) = some (.writeString 2#16, [0x48#8, 0x49#8]) := by decide

theorem test_wiring_wf : Config.wiring.wf = true ∧ (Wiring.mk 0 2 0).wf = false ∧ (Wiring.mk 1 1 3).wf = false := by decide
theorem test_codes_wf : Config.codes.wf = true
    ∧ Codes.wf (Codes.mk 1 2 4 6 1 8 4 2 1 16 8 4 32 16 8 4 64 128) = false := by decide

/-! ### One request on a small state -/

/-- A handle initialised by `init 0x27, cols, rows, 0` with the backlight on, its trace emptied, the next four Closes
acknowledged (95_test_vectors.md, Conventions and L1.10). -/
def handle (cols rows : Byte) : State :=
  { State.reset with
    addr := 0x27#7, cols := cols, rows := rows, rowtab := RowTab.ofCols cols, func := functionFlags rows false,
    dctrl := 0x04#8, emode := 0x02#8, bl := true, seq := 9#4, acks := [true, true, true, true] }

/-- The state after a request (the state itself, should it end otherwise: no request does). -/
def after (i : Instr) (s : State) : State :=
  match exec i s with
  | .next t => t
  | .fault _ => s
  | .refused _ => s

/-- A transaction of its own to target 0x27. -/
def tx (bytes : List Byte) : List Event := .openTx 0x27#7 :: bytes.map .wr ++ [.closeTx true]

/-- The trace of 41_sequencer.md R134 with target 0x27, function-set byte 0x28 and BL = 1. -/
def initTrace : List Event :=
  [.wait 50000] ++ tx [0x3C, 0x38] ++ [.wait 4500] ++ tx [0x3C, 0x38] ++ [.wait 4500] ++ tx [0x3C, 0x38] ++ [.wait 150]
    ++ tx [0x2C, 0x28] ++ tx [0x2C, 0x28, 0x8C, 0x88] ++ tx [0x0C, 0x08, 0xCC, 0xC8] ++ tx [0x0C, 0x08, 0x1C, 0x18]
    ++ [.wait 2000] ++ tx [0x0C, 0x08, 0x6C, 0x68] ++ tx [0x0C, 0x08, 0x2C, 0x28] ++ [.wait 2000]

/-- The trace of L2.2 for the OLED request with BL_INIT(1) = 0. -/
def initTraceOledDark : List Event :=
  [.wait 50000] ++ tx [0x34, 0x30] ++ [.wait 4500] ++ tx [0x34, 0x30] ++ [.wait 4500] ++ tx [0x34, 0x30] ++ [.wait 150]
    ++ tx [0x24, 0x20] ++ tx [0x24, 0x20, 0x84, 0x80] ++ tx [0x04, 0x00, 0xC4, 0xC0] ++ tx [0x04, 0x00, 0x14, 0x10]
    ++ [.wait 2000] ++ tx [0x84, 0x80, 0x04, 0x00] ++ tx [0x04, 0x00, 0x64, 0x60] ++ tx [0x04, 0x00, 0x24, 0x20]
    ++ [.wait 2000]

/-- L1.10: INIT with every Close acknowledged. -/
theorem test_init :
    let t := initBody true 0x27#7 16#8 2#8 false false { State.reset with acks := List.replicate 9 true }
    t.trace = initTrace ∧ t.status = 0x0019#16 ∧ (t.func, t.dctrl, t.emode, t.bl) = (0x08#8, 0x04#8, 0x02#8, true)
      ∧ t.rowtab = ⟨0x00#8, 0x40#8, 0x10#8, 0x50#8⟩ := by decide
/-- L2.2: an INIT whose third Close is answered negatively. -/
theorem test_init_failed :
    let t := initBody true 0x27#7 16#8 2#8 false false
      { State.reset with acks := [true, true, false, true, true, true, true, true, true] }
    t.trace = initTrace ∧ t.status = 0x0069#16 := by decide
/-- L2.2: the OLED request with BL_INIT(1) = 0. -/
theorem test_init_oled :
    (initBody false 0x27#7 16#8 2#8 false true { State.reset with acks := List.replicate 10 true }).trace
      = initTraceOledDark := by decide
/-- L2.2: a second INIT is refused with REINIT. -/
theorem test_init_again : (after (.init 0x27#7 16#8 2#8 false false) (handle 16 2)).status = 0x0419#16
    ∧ (after (.init 0x27#7 16#8 2#8 false false) (handle 16 2)).trace = [] := by decide
/-- L2.2: FUNC. -/
theorem test_functionFlags : functionFlags 2#8 false = 0x08#8 ∧ functionFlags 1#8 true = 0x04#8
    ∧ functionFlags 4#8 true = 0x08#8 ∧ functionFlags 1#8 false = 0x00#8 ∧ functionFlags 0#8 false = 0x00#8 := by decide
/-- L1.3: the row-start table, with its wrap. -/
theorem test_rowtab : RowTab.ofCols 20#8 = ⟨0x00#8, 0x40#8, 0x14#8, 0x54#8⟩
    ∧ RowTab.ofCols 0xF0#8 = ⟨0x00#8, 0x40#8, 0xF0#8, 0x30#8⟩ := by decide
/-- L1.1, L1.2. -/
theorem test_buildFrame : buildFrame Config.wiring 0x4A#8 true true = 0x49#8
    ∧ buildFrame Config.wiring 0x30#8 false true = 0x38#8 ∧ buildFrame Config.wiring 0x0F#8 false false = 0x00#8
    ∧ buildFrame Config.wiring 0xF0#8 true false = 0xF1#8 := by decide
theorem test_pulseEnable : pulseEnable Config.wiring 0x49#8 = [.wr 0x4D#8, .wr 0x49#8] := by decide

/-- L1.4. -/
theorem test_command : (after (.command 0x28#8) (handle 16 2)).trace = tx [0x2C, 0x28, 0x8C, 0x88] := by decide
/-- L2.3. -/
theorem test_command_dark :
    (after (.command 0xFF#8) { handle 16 2 with bl := false }).trace = tx [0xF4, 0xF0, 0xF4, 0xF0] := by decide
/-- L1.5. -/
theorem test_writeChar : (after (.writeChar 0x41#8) (handle 16 2)).trace = tx [0x4D, 0x49, 0x1D, 0x19]
    ∧ (after (.writeChar 0x41#8) (handle 16 2)).result = 1#16 := by decide
/-- 40_frame_encoder.md R108, 42_byte_ops.md R141: a negative acknowledge sets XFAIL and changes nothing else. -/
theorem test_writeChar_nacked :
    let t := after (.writeChar 0x41#8) { handle 16 2 with acks := [false] }
    t.trace = tx [0x4D, 0x49, 0x1D, 0x19] ∧ t.result = 1#16 ∧ t.status = 0x0039#16 := by decide
/-- L2.4: nine characters, CAP_FRAMES = 16: one flush. -/
theorem test_writeString_flush :
    let t := wstrBody 16 9#16 { handle 16 2 with din := [0x41, 0x42, 0x43, 0x44, 0x45, 0x46, 0x47, 0x48, 0x49] }
    t.trace = .openTx 0x27#7 :: [0x4D, 0x49, 0x1D, 0x19, 0x4D, 0x49, 0x2D, 0x29, 0x4D, 0x49, 0x3D, 0x39, 0x4D, 0x49, 0x4D,
        0x49, 0x4D, 0x49, 0x5D, 0x59, 0x4D, 0x49, 0x6D, 0x69, 0x4D, 0x49, 0x7D, 0x79, 0x4D, 0x49, 0x8D, 0x89].map .wr
        ++ .closeTx false :: tx [0x4D, 0x49, 0x9D, 0x99]
      ∧ t.result = 9#16 ∧ t.qf = 0#8 ∧ t.din = [] := by decide
/-- L2.4: CAP_FRAMES = 2, and a string that runs out of bytes inside its transaction. -/
theorem test_writeString_hold :
    let t := wstrBody 2 3#16 { handle 16 2 with din := [0x61, 0x62] }
    t.trace = [.openTx 0x27#7, .wr 0x6D#8, .wr 0x69#8, .wr 0x1D#8, .wr 0x19#8, .closeTx false,
        .openTx 0x27#7, .wr 0x6D#8, .wr 0x69#8, .wr 0x2D#8, .wr 0x29#8]
      ∧ t.held = some (.writeString 3#16 1) ∧ t.txopen = true ∧ t.qf = 2#8 := by decide
/-- L2.4: slot 1 and its eight rows. -/
theorem test_defineCustomChar :
    let t := after (.defineCustomChar 1#8 false)
      { handle 16 2 with
        din := [0x1F, 0x11, 0x11, 0x11, 0x11, 0x11, 0x11, 0x1F], acks := List.replicate 9 true }
    t.trace = tx [0x4C, 0x48, 0x8C, 0x88] ++ tx [0x1D, 0x19, 0xFD, 0xF9]
        ++ (List.replicate 6 (tx [0x1D, 0x19, 0x1D, 0x19])).flatten ++ tx [0x1D, 0x19, 0xFD, 0xF9]
      ∧ t.status = 0x0019#16 ∧ t.held = none := by decide
/-- L2.4: slot masking. -/
theorem test_glyphSlot : setCgramByte 0x08#8 = 0x40#8 ∧ setCgramByte 0xFF#8 = 0x78#8 := by decide

/-- L2.5. -/
theorem test_clear : (after .clear (handle 16 2)).trace = tx [0x0C, 0x08, 0x1C, 0x18] ++ [.wait 2000] := by decide
theorem test_clear_oled : (after .clear { handle 16 2 with oled := true }).trace
    = tx [0x0C, 0x08, 0x1C, 0x18] ++ [.wait 2000] ++ tx [0x8C, 0x88, 0x0C, 0x08] := by decide
theorem test_home : (after .home { handle 16 2 with oled := true }).trace
    = tx [0x0C, 0x08, 0x2C, 0x28] ++ [.wait 2000] := by decide
theorem test_setCursor_wrap : (after (.setCursor 255#8 1#8) (handle 16 2)).trace = tx [0xBC, 0xB8, 0xFC, 0xF8] := by decide
theorem test_setCursor_rows :
    (after (.setCursor 5#8 3#8) (handle 16 2)).trace = tx [0xCC, 0xC8, 0x5C, 0x58]
    ∧ (after (.setCursor 0#8 2#8) (handle 16 2)).trace = tx [0x9C, 0x98, 0x0C, 0x08]
    ∧ (after (.setCursor 0#8 4#8) (handle 20 4)).status = 0x0819#16
    ∧ (after (.setCursor 0#8 1#8) (handle 16 0)).status = 0x0819#16 := by decide

/-! L2.6, L2.7: writes and mirror registers. -/

theorem test_display : (after .display (handle 16 2)).trace = tx [0x0C, 0x08, 0xCC, 0xC8]
    ∧ ((after .display (handle 16 2)).dctrl, (after .display (handle 16 2)).emode) = (0x04#8, 0x02#8) := by decide
theorem test_noDisplay : (after .noDisplay (handle 16 2)).trace = tx [0x0C, 0x08, 0x8C, 0x88]
    ∧ ((after .noDisplay (handle 16 2)).dctrl, (after .noDisplay (handle 16 2)).emode) = (0x00#8, 0x02#8) := by decide
theorem test_cursor : (after .cursor (handle 16 2)).trace = tx [0x0C, 0x08, 0xEC, 0xE8]
    ∧ ((after .cursor (handle 16 2)).dctrl, (after .cursor (handle 16 2)).emode) = (0x06#8, 0x02#8) := by decide
theorem test_blink : (after .blink (handle 16 2)).trace = tx [0x0C, 0x08, 0xDC, 0xD8]
    ∧ ((after .blink (handle 16 2)).dctrl, (after .blink (handle 16 2)).emode) = (0x05#8, 0x02#8) := by decide
theorem test_setTextDirectionRtl : (after .setTextDirectionRtl (handle 16 2)).trace = tx [0x0C, 0x08, 0x4C, 0x48]
    ∧ ((after .setTextDirectionRtl (handle 16 2)).dctrl, (after .setTextDirectionRtl (handle 16 2)).emode) = (0x04#8, 0x00#8) := by decide
theorem test_autoscroll : (after .autoscroll (handle 16 2)).trace = tx [0x0C, 0x08, 0x7C, 0x78]
    ∧ ((after .autoscroll (handle 16 2)).dctrl, (after .autoscroll (handle 16 2)).emode) = (0x04#8, 0x03#8) := by decide
theorem test_noCursor : 
    let t := after .noCursor { handle 16 2 with dctrl := 0x06 }
    t.trace = tx [0x0C, 0x08, 0xCC, 0xC8] ∧ (t.dctrl, t.emode) = (0x04#8, 0x02#8) := by decide
theorem test_noBlink : 
    let t := after .noBlink { handle 16 2 with dctrl := 0x05 }
    t.trace = tx [0x0C, 0x08, 0xCC, 0xC8] ∧ (t.dctrl, t.emode) = (0x04#8, 0x02#8) := by decide
theorem test_setTextDirectionLtr : 
    let t := after .setTextDirectionLtr { handle 16 2 with emode := 0x00 }
    t.trace = tx [0x0C, 0x08, 0x6C, 0x68] ∧ (t.dctrl, t.emode) = (0x04#8, 0x02#8) := by decide
theorem test_noAutoscroll : 
    let t := after .noAutoscroll { handle 16 2 with emode := 0x03 }
    t.trace = tx [0x0C, 0x08, 0x6C, 0x68] ∧ (t.dctrl, t.emode) = (0x04#8, 0x02#8) := by decide
theorem test_scrollLeft : (after .scrollLeft (handle 16 2)).trace = tx [0x1C, 0x18, 0x8C, 0x88] := by decide
theorem test_scrollRight : (after .scrollRight (handle 16 2)).trace = tx [0x1C, 0x18, 0xCC, 0xC8] := by decide
theorem test_moveCursorLeft : (after .moveCursorLeft (handle 16 2)).trace = tx [0x1C, 0x18, 0x0C, 0x08] := by decide
theorem test_moveCursorRight : (after .moveCursorRight (handle 16 2)).trace = tx [0x1C, 0x18, 0x4C, 0x48] := by decide
theorem test_backlight :
    (after .backlightOff (handle 16 2)).trace = tx [0x00] ∧ (after .backlightOff (handle 16 2)).bl = false
    ∧ (after .backlightOn { handle 16 2 with bl := false }).trace = tx [0x08]
    ∧ (after .backlightOn { handle 16 2 with bl := false }).bl = true := by decide
theorem test_setBacklight :
    (after (.setBacklight false) (handle 16 2)).trace = tx [0x00] ∧ (after (.setBacklight true) (handle 16 2)).trace = tx [0x08] := by
  decide
/-- L2.7: the stubs are accepted before INIT too. -/
theorem test_legacy : ∀ i ∈ [Instr.legacyStatus, .legacyKeypad, .legacyBargraph, .legacyContrast, .legacyDelay],
    after i { State.reset with result := 7#16 } = State.reset := by decide
/-- L2.8. -/
theorem test_not_init : (after (.command 0x01#8) State.reset).status = 0x0200#16 ∧ (after (.command 0x01#8) State.reset).trace = [] := by
  decide
/-- L2.2: after a failed INIT a command is refused with HANDLE_FAILED, a stub is not. -/
theorem test_handle_failed :
    (after (.command 0x01#8) { handle 16 2 with xfail := true, failed := true }).status = 0x1069#16
    ∧ (after .legacyContrast { handle 16 2 with xfail := true, failed := true }).status = 0x0069#16 := by decide
/-- L2.1: an illegal word, taken by the step. -/
theorem test_step_illegal : step ((handle 16 2).issue 0x00000000#32)
    = .next { handle 16 2 with fset := 0x01#5 } := by rfl
/-- The step runs the word it is given, and only it. -/
theorem test_step_fetch : step ((handle 16 2).withFetchWord 32 0xD0000004) = .next (handle 16 2) := by rfl

/-! What is read off a trace. -/

/-- L1.10: the command bytes of INIT; its power-up nibbles 3, 3, 3, 2 pair up before them (log 17). -/
theorem test_commandBytes : commandBytes Config.wiring initTrace = [0x33#8, 0x32#8, 0x28#8, 0x0C#8, 0x01#8, 0x06#8, 0x02#8] := by
  decide
theorem test_busRun : busRun 0x27#7 .idle initTrace = some .idle
    ∧ busRun 0x27#7 .idle [.openTx 0x27#7, .closeTx true] = none
    ∧ busRun 0x27#7 .idle [.openTx 0x27#7, .wr 0#8, .wait 1] = none
    ∧ busRun 0x27#7 .idle [.openTx 0x26#7] = none := by decide
theorem test_pulsesOk : pulsesOk Config.wiring initTrace = true
    ∧ pulsesOk Config.wiring [.wr 0x3C#8, .wr 0x28#8] = false ∧ pulsesOk Config.wiring [.wr 0x3C#8] = false := by decide
/-- 70_reset_and_hazards.md R224 to R229: a command that meets the contract, and three that break one clause each. -/
theorem test_timing :
    let ok : List TimedEvent := [(.wr 0x0C, 0), (.wr 0x08, 450), (.wr 0x1C, 37000), (.wr 0x18, 37450)]
    meetsTimingContract Config.wiring 0 ok = true
    ∧ meetsTimingContract Config.wiring 0 [(.wr 0x0C, 0), (.wr 0x08, 449)] = false
    ∧ meetsTimingContract Config.wiring 0 [(.wr 0x0C, 0), (.wr 0x08, 450), (.wr 0x1C, 37000), (.wr 0x18, 37449)] = false
    ∧ meetsTimingContract Config.wiring 0 [(.wait 2, 0), (.wr 0x08, 1999)] = false := by decide
/-- R226: 2 ms after a clear sent through CMD. -/
theorem test_timing_slow :
    let clear : List TimedEvent := [(.wr 0x0C, 0), (.wr 0x08, 450), (.wr 0x1C, 40000), (.wr 0x18, 40450)]
    meetsTimingContract Config.wiring 0 (clear ++ [(.wr 0x4D, 2040000), (.wr 0x49, 2040450)]) = true
    ∧ meetsTimingContract Config.wiring 0 (clear ++ [(.wr 0x4D, 2040000), (.wr 0x49, 2040449)]) = false := by decide

/-! ### Witnesses: for each obligation with hypotheses, a state and operands that meet them, one for each clause -/

/-- A handle whose INIT failed, and one that is not initialised yet. -/
def failedHandle : State := { handle 16 2 with xfail := true, failed := true }
def unpowered : State := { State.reset with acks := [true] }

/-- A handle inside a WSTR of 3 characters, the first one sent, the second one just arrived. -/
def heldString : State :=
  { handle 16 2 with
    trace := tx [0x08] ++ [.openTx 0x27#7, .wr 0x4D#8, .wr 0x49#8, .wr 0x1D#8, .wr 0x19#8],
    txopen := true, qf := 2#8, held := some (.writeString 3#16 2), din := [0x42#8] }

/-- A handle between requests. -/
def quiet : State := { handle 16 2 with trace := tx [0x08], requests := [0x40000000#32] }

/-- The hypotheses of a guarded request: refused on a failed handle, refused before INIT, accepted. -/
def GuardWitness : Prop :=
  failedHandle.failed = true ∧ (unpowered.failed = false ∧ unpowered.seq ≠ 9#4) ∧ accepts (handle 16 2)

theorem guard_witness : GuardWitness := ⟨rfl, ⟨rfl, by decide⟩, rfl, rfl⟩

theorem witness_AcceptedWordIsItsEncoding : decode 0x38000103#32 = .ok (.setCursor 3#8 1#8) := rfl

theorem witness_DecoderAcceptsExactlyLegalWords : legalWord 0xD0000004#32 = true ∧ decode 0xD0000004#32 = .ok .legacyDelay :=
  ⟨rfl, rfl⟩

theorem witness_RequestLinesEncodeTheirOperands :
    (SourceRequest.init 127 255 255 1 (some 1)).wf = true ∧ (SourceRequest.init 0 0 0 0 (some 0)).wf = true
    ∧ formatOf 5 = some .n ∧ formatOf 24 = some .n := by decide

theorem witness_PseudoRequestsExpand :
    (List.replicate 65535 0x41#8).length < 65536 ∧ 0#8 ∉ [0x48#8, 0x49#8] ∧ ([] : List Byte).length < 65536 := by
  refine ⟨?_, by decide, by decide⟩
  rw [List.length_replicate]
  decide

theorem witness_StepRunsDecodedRequest :
    (handle 16 2).held = none ∧ ((handle 16 2).issue 0x28000000#32).requests = [0x28000000#32]
    ∧ decode 0x28000000#32 = .ok .clear := ⟨rfl, rfl, rfl⟩

theorem witness_IllegalWordSetsOnlyItsFsetBit :
    (State.reset.issue 0x00000000#32).held = none ∧ (State.reset.issue 0x00000000#32).requests = [0x00000000#32]
    ∧ legalWord 0x00000000#32 = false := ⟨rfl, rfl, rfl⟩

theorem witness_IdleBlockWaits : State.reset.held = none ∧ State.reset.requests = [] := ⟨rfl, rfl⟩

/-- Both kinds of held request, at the ends of what is left. -/
theorem witness_HeldRequestHoldsWhileDinIsEmpty :
    ({ heldString with din := [] } : State).held = some (.writeString 3#16 2)
    ∧ (Held.writeString 3#16 1).sane = true ∧ (Held.writeString 3#16 3).sane = true
    ∧ (Held.defineCustomChar 1).sane = true ∧ (Held.defineCustomChar 8).sane = true
    ∧ ({ heldString with din := [] } : State).din = [] := by decide

theorem witness_LateDinBytesGiveTheSameRun :
    (handle 16 2).held = none
    ∧ (∃ t, exec (.writeString 1#16) (handle 16 2) = .next t ∧ t.held ≠ none)
    ∧ (∃ t, exec (.defineCustomChar 1#8 false) { handle 16 2 with din := [0x1F#8] } = .next t ∧ t.held ≠ none) :=
  ⟨rfl, ⟨_, rfl, by decide⟩, ⟨_, rfl, by decide⟩⟩

theorem witness_FrameBitsUnderEveryWiring : Config.wiring.wf = true ∧ (Wiring.mk 1 3 0).wf = true := by decide
theorem witness_SentByteReadsBackUnderEveryWiring : Config.wiring.wf = true ∧ (Wiring.mk 3 0 2).wf = true := by decide

theorem witness_InitRunsThePowerUpSequence : unpowered.seq = 0#4 ∧ (handle 16 2).seq ≠ 0#4 := by decide

theorem witness_InitEventCounts :
    unpowered.seq = 0#4 ∧ (∃ t, exec (.init 0x27#7 16#8 2#8 false false) unpowered = .next t)
    ∧ (∃ t, exec (.init 0x27#7 16#8 2#8 false true) unpowered = .next t) := ⟨rfl, ⟨_, rfl⟩, ⟨_, rfl⟩⟩

/-- The last Close of INIT, not OLED and OLED, answered negatively. -/
theorem witness_FailedInitIsFatalToTheHandle :
    unpowered.seq = 0#4
    ∧ ({ unpowered with acks := List.replicate 8 true ++ [false] } : State).nackedIn (initCloses false) = true
    ∧ ({ unpowered with acks := List.replicate 9 true ++ [false] } : State).nackedIn (initCloses true) = true :=
  ⟨rfl, rfl, rfl⟩

theorem witness_CommandSendsItsByte : GuardWitness := guard_witness
theorem witness_WriteCharSendsItsByteAsData : GuardWitness := guard_witness
theorem witness_EmptyStringEmitsNothing : GuardWitness := guard_witness

/-- The shortest string, and the longest. -/
theorem witness_WriteStringSendsItsBatches :
    accepts (handle 16 2) ∧ (1#16 ≠ 0#16 ∧ (1#16).toNat ≤ [0x41#8].length)
    ∧ (0xFFFF#16 ≠ 0#16 ∧ (0xFFFF#16).toNat ≤ (List.replicate 65535 0x41#8).length) := by
  refine ⟨⟨rfl, rfl⟩, by decide, by decide, ?_⟩
  rw [List.length_replicate]
  decide

theorem witness_WriteStringHoldsInsideItsTransaction :
    accepts (handle 16 2) ∧ (handle 16 2).din.length < (1#16).toNat
    ∧ (List.replicate 65534 0x41#8).length < (0xFFFF#16).toNat := by
  refine ⟨⟨rfl, rfl⟩, by decide, ?_⟩
  rw [List.length_replicate]
  decide

theorem witness_WriteStringBatchingCounts :
    accepts { handle 16 2 with din := [0x41#8] } ∧ 1#16 ≠ 0#16 ∧ (1#16).toNat ≤ [0x41#8].length :=
  ⟨⟨rfl, rfl⟩, by decide, by decide⟩

theorem witness_DefineCustomCharSendsEightRows :
    GuardWitness ∧ accepts { handle 16 2 with din := List.replicate 8 0x1F#8 }
    ∧ 8 ≤ (List.replicate 8 0x1F#8).length ∧ (List.replicate 7 0x1F#8).length < 8 :=
  ⟨guard_witness, ⟨rfl, rfl⟩, by decide, by decide⟩

theorem witness_ClearSettlesThenRehomesOnOled : GuardWitness := guard_witness
theorem witness_HomeSettles : GuardWitness := guard_witness

/-- Row indexes 0 and 3 in the table; 4 and, on a handle with ROWS 0, 255 past it. -/
theorem witness_SetCursorClampsRowAndSendsAddress :
    GuardWitness ∧ accepts (handle 20 4) ∧ accepts (handle 16 0)
    ∧ clampRow 4#8 0#8 = 0#8 ∧ clampRow 4#8 3#8 = 3#8 ∧ clampRow 4#8 4#8 = 4#8 ∧ clampRow 4#8 5#8 = 3#8
    ∧ clampRow 0#8 1#8 = 255#8
    ∧ [(handle 20 4).rowtab.r0, (handle 20 4).rowtab.r1, (handle 20 4).rowtab.r2, (handle 20 4).rowtab.r3][3]? = some 0x54#8 :=
  ⟨guard_witness, ⟨rfl, rfl⟩, ⟨rfl, rfl⟩, by decide⟩

/-- ROWS 1 and 254 for the first clause, 4 for the second, 3 for the third. -/
theorem witness_CursorRowClampIsOffByOne :
    accepts (handle 16 1) ∧ (1 ≤ (handle 16 1).rows.toNat ∧ (handle 16 1).rows.toNat ≤ 254)
    ∧ accepts (handle 16 254) ∧ (handle 16 254).rows.toNat ≤ 254
    ∧ accepts (handle 16 4) ∧ 4 ≤ (handle 16 4).rows.toNat
    ∧ accepts (handle 16 3)
    ∧ [(handle 16 3).rowtab.r0, (handle 16 3).rowtab.r1, (handle 16 3).rowtab.r2, (handle 16 3).rowtab.r3][(handle 16 3).rows.toNat]?
        = some 0x50#8 :=
  ⟨⟨rfl, rfl⟩, by decide, ⟨rfl, rfl⟩, by decide, ⟨rfl, rfl⟩, by decide, ⟨rfl, rfl⟩, by decide⟩

theorem witness_DisplayTogglesResendControlByte : GuardWitness := guard_witness
theorem witness_ShiftsSendOneFixedCommand : GuardWitness := guard_witness
theorem witness_EntryModeRequestsResendModeByte : GuardWitness := guard_witness
theorem witness_BacklightRequestsWriteOneBareByte : GuardWitness := guard_witness

theorem witness_LegacyStubsOnlyClearResult :
    Instr.legacyStatus ∈ [Instr.legacyStatus, .legacyKeypad, .legacyBargraph, .legacyContrast, .legacyDelay] := by decide

theorem witness_MirrorRequestsAreIdempotent : Instr.cursor ∈ repeatable ∧ accepts (handle 16 2) := ⟨by decide, rfl, rfl⟩

theorem witness_MirrorsMatchTheBytesSent :
    Instr.noDisplay.steady = true ∧ (∀ b, Instr.noDisplay ≠ .command b) ∧ accepts (handle 16 2)
    ∧ (handle 16 2).dctrl &&& 0xF8#8 = 0#8 ∧ (handle 16 2).emode &&& 0xFC#8 = 0#8
    ∧ ∃ t, exec .noDisplay (handle 16 2) = .next t ∧ t.trace = (handle 16 2).trace ++ tx [0x0C, 0x08, 0x8C, 0x88] :=
  ⟨rfl, by simp, ⟨rfl, rfl⟩, by decide, by decide, _, rfl, by decide⟩

theorem witness_SteadyRequestsNeedAReadyHandle : Instr.home.steady = true ∧ GuardWitness := ⟨rfl, guard_witness⟩

/-- Each check that refuses, NOT_INIT with its bit set already too, and requests that none refuses. -/
theorem witness_RefusedRequestChangesOnlyFset :
    refusalBit .clear unpowered = some 0x02#5 ∧ refusalBit .clear { unpowered with fset := 0x02#5 } = some 0x02#5
    ∧ refusalBit .clear failedHandle = some 0x10#5 ∧ refusalBit (.setCursor 0#8 0#8) failedHandle = some 0x10#5
    ∧ refusalBit (.init 0x27#7 16#8 2#8 false false) failedHandle = some 0x04#5
    ∧ refusalBit (.setCursor 0#8 4#8) (handle 20 4) = some 0x08#5 ∧ refusalBit (.setCursor 0#8 3#8) (handle 20 4) = none
    ∧ refusalBit .clear (handle 16 2) = none ∧ refusalBit .legacyDelay failedHandle = none
    ∧ refusalBit (.init 0x27#7 16#8 2#8 false false) unpowered = none := by decide

theorem witness_FaultBitsAreSticky :
    failedHandle.xfail = true ∧ failedHandle.failed = true
    ∧ ∃ t, step { failedHandle with fset := 0x1F#5, requests := [0x00000000#32] } = .next t := ⟨rfl, rfl, _, rfl⟩

/-- Requests other than INIT, an INIT that is refused, and one that is accepted. -/
theorem witness_AcknowledgesDecideOnlyXfailAndFailed :
    ((∀ a c r f o, Instr.clear ≠ .init a c r f o) ∧ ∃ t, exec .clear (handle 16 2) = .next t)
    ∧ ((∀ a c r f o, Instr.legacyStatus ≠ .init a c r f o) ∧ ∃ t, exec .legacyStatus unpowered = .next t)
    ∧ ((handle 16 2).seq ≠ 0#4 ∧ ∃ t, exec (.init 0x27#7 16#8 2#8 false false) (handle 16 2) = .next t)
    ∧ (unpowered.seq = 0#4 ∧ ∃ t, exec (.init 0x27#7 16#8 2#8 false false) unpowered = .next t) :=
  ⟨⟨by simp, _, rfl⟩, ⟨by simp, _, rfl⟩, ⟨by decide, _, rfl⟩, rfl, _, rfl⟩

/-- Two states that differ in a register INIT writes, with INIT as the next request. -/
theorem witness_RegistersBeforeInitAreUnobservable :
    let s := State.reset.issue 0x08270210#32
    s.seq = 0#4 ∧ s.held = none ∧ AgreeOutsideHandle s { s with cols := 20#8, bl := true }
    ∧ ∃ t, step s = .next t ∧ t.seq ≠ 0#4 :=
  ⟨rfl, rfl, rfl, _, rfl, by decide⟩

/-- A state that differs from reset in registers without a reset value, unnamed bits of the mirror registers among them. -/
theorem witness_ResetMeetsTheInvariants :
    AgreeOutsideHandle State.reset { State.reset with addr := 0x27#7, func := 0xFF#8, dctrl := 0xFF#8, emode := 0xFF#8, bl := true } :=
  rfl

theorem quiet_reg_inv : RegInv quiet where
  seq_legal := .inr rfl
  unpowered_quiet := fun h => absurd h (by decide)
  failed_xfail := by decide
  geometry := fun _ => rfl
  func_value := fun _ => rfl
  func_bits := fun _ => by decide
  dctrl_bits := fun _ => by decide
  emode_bits := fun _ => by decide
  txopen_iff := rfl
  qf_zero := fun _ => rfl
  qf_range := ⟨Nat.zero_le _, rfl⟩
  held_sane := rfl

theorem heldString_reg_inv : RegInv heldString where
  seq_legal := .inr rfl
  unpowered_quiet := fun h => absurd h (by decide)
  failed_xfail := by decide
  geometry := fun _ => rfl
  func_value := fun _ => rfl
  func_bits := fun _ => by decide
  dctrl_bits := fun _ => by decide
  emode_bits := fun _ => by decide
  txopen_iff := rfl
  qf_zero := fun h => absurd h (by decide)
  qf_range := ⟨Nat.mul_le_mul_left 2 (Nat.le_add_left 1 _), rfl⟩
  held_sane := rfl

theorem quiet_trace_inv : TraceInv quiet where
  discipline_idle := fun _ => by decide
  discipline_mid := fun h => absurd h (by decide)
  pulses := by decide
  spare_zero := by decide
  enable_low := fun b h => by
    have h : some 0x08#8 = some b := h
    injection h with h; subst h; decide
  backlight_mirror := fun _ => ⟨0x08#8, rfl, by decide⟩

theorem heldString_trace_inv : TraceInv heldString where
  discipline_idle := fun h => absurd h (by decide)
  discipline_mid := fun _ => .inl (by decide)
  pulses := by decide
  spare_zero := by decide
  enable_low := fun b h => by
    have h : some 0x19#8 = some b := h
    injection h with h; subst h; decide
  backlight_mirror := fun _ => ⟨0x19#8, rfl, by decide⟩

/-- Between requests, and inside a held WSTR. -/
theorem witness_StepKeepsTheRegisterInvariant :
    (RegInv quiet ∧ ∃ t, step quiet = .next t) ∧ (RegInv heldString ∧ ∃ t, step heldString = .next t) :=
  ⟨⟨quiet_reg_inv, _, rfl⟩, heldString_reg_inv, _, rfl⟩

theorem witness_StepKeepsTheTraceInvariant :
    (RegInv quiet ∧ TraceInv quiet ∧ ∃ t, step quiet = .next t)
    ∧ (RegInv heldString ∧ TraceInv heldString ∧ ∃ t, step heldString = .next t) :=
  ⟨⟨quiet_reg_inv, quiet_trace_inv, _, rfl⟩, heldString_reg_inv, heldString_trace_inv, _, rfl⟩

theorem witness_OnlyInitAdvancesTheSequencer :
    (∃ t, step (State.reset.issue 0x08270210#32) = .next t ∧ t.seq = 9#4)
    ∧ (∀ a c r f o, Instr.home ≠ .init a c r f o) ∧ ∃ t, exec .home (handle 16 2) = .next t :=
  ⟨⟨_, rfl, by decide⟩, by simp, _, rfl⟩

theorem witness_ConfigurationIsWrittenOnce : quiet.seq ≠ 0#4 ∧ ∃ t, step quiet = .next t := ⟨by decide, _, rfl⟩

theorem witness_MirrorsAreWrittenOnlyByTheirRequests :
    (∀ a c r f o, Instr.home ≠ .init a c r f o) ∧ (∃ t, exec .home (handle 16 2) = .next t)
    ∧ Instr.home ∉ [Instr.display, .noDisplay, .cursor, .noCursor, .blink, .noBlink]
    ∧ Instr.home ∉ [Instr.setTextDirectionLtr, .setTextDirectionRtl, .autoscroll, .noAutoscroll]
    ∧ Instr.home ∉ [Instr.backlightOn, .backlightOff, .setBacklight true, .setBacklight false] :=
  ⟨by simp, ⟨_, rfl⟩, by decide⟩

/-- Latencies at the two bounds, and one between them. -/
theorem witness_ByteLatencyMeetsPulseAndSettleTimes :
    bytesSpaced 450 (timedWrites [(.wr 0x0C, 0), (.wr 0x08, 450)]) = true
    ∧ bytesSpaced 18500
        (timedWrites [(.wr 0x0C, 0), (.wr 0x08, 18500), (.wr 0x1C, 37000), (.wr 0x18, 55500)]) = true
    ∧ (450 ≤ 450 ∧ 37000 ≤ 2 * 18500) := by decide

end Sys2Proof.Tests
end

section
/-! The step with nothing held (00_scope.md R6): what the request port gives, what the step then does, and the two
obligations about it. -/

namespace Sys2Proof.Machine

/-! ### The request port -/

theorem State.takeRequest_of_requests_nil {s : State} (hr : s.requests = []) : s.takeRequest = none := by
  simp only [State.takeRequest, hr]

theorem State.takeRequest_of_requests_cons {s : State} {w : ReqWord} {ws : List ReqWord} (hr : s.requests = w :: ws) :
    s.takeRequest = some (w, s.setRequests ws) := by
  simp only [State.takeRequest, hr]

/-! ### The step, by what the request port gives -/

theorem step_of_takeRequest_none {s : State} (hh : s.held = none) (ht : s.takeRequest = none) : step s = idle s := by
  simp only [step, hh, ht]

theorem step_of_takeRequest_some {s s' : State} {w : ReqWord} {i : Instr} (hh : s.held = none)
    (ht : s.takeRequest = some (w, s')) (hd : decode w = .ok i) : step s = exec i s' := by
  simp only [step, hh, ht, hd]

/-! ### The obligations -/

/-- Settles O8: the port gives the oldest word and the state without it, and the step runs what the word decodes to. -/
theorem stepRunsDecodedRequest : Obligations.StepRunsDecodedRequest := by
  intro s w ws i hh hr hd
  have ht : s.takeRequest = some (w, s.setRequests ws) := State.takeRequest_of_requests_cons hr
  exact step_of_takeRequest_some hh ht hd

/-- Settles O10: an empty port gives no word, so the step is `idle`, which answers the state itself. -/
theorem idleBlockWaits : Obligations.IdleBlockWaits := by
  intro s hh hr
  have ht : s.takeRequest = none := State.takeRequest_of_requests_nil hr
  exact step_of_takeRequest_none hh ht

end Sys2Proof.Machine
end

section
/-! The register invariant (10_state.md R22 to R35): one rule per state operation, said of `RegInv` as it stands, then the
requests that are built from them. -/

namespace Sys2Proof.Machine

variable {s t : State}

/-! ### Operations that write no register of the invariant -/

theorem RegInv.setRequests (h : RegInv s) (ws : List ReqWord) : RegInv (s.setRequests ws) := { h with }
theorem RegInv.setDin (h : RegInv s) (bs : List Byte) : RegInv (s.setDin bs) := { h with }
theorem RegInv.setResult (h : RegInv s) (v : Half) : RegInv (s.setResult v) := { h with }
theorem RegInv.setBl (h : RegInv s) (v : Bool) : RegInv (s.setBl v) := { h with }
theorem RegInv.raiseFault (h : RegInv s) (c : Fault) : RegInv (s.raiseFault c) := { h with }

/-! ### Writing a register of the invariant -/

theorem RegInv.setDctrl (h : RegInv s) {d : Byte} (hd : d &&& 0xF8#8 = 0#8) : RegInv (s.setDctrl d) :=
  { h with dctrl_bits := fun _ => hd }

theorem RegInv.setEmode (h : RegInv s) {e : Byte} (he : e &&& 0xFC#8 = 0#8) : RegInv (s.setEmode e) :=
  { h with emode_bits := fun _ => he }

/-- A state past INIT emits events, counts QF anew and holds another request, or none: the invariant asks that TXOPEN and QF
then fit what is held. -/
theorem RegInv.busStep (h : RegInv s) (hs : s.seq = seqHomed) {es : List Event} {q : Byte} {x : Option Held}
    (htx : txAfter s.txopen es = x.any Held.midTransaction) (hq0 : x.any Held.midTransaction = false → q = 0#8)
    (hq : q.toNat ≤ Config.capFrames ∧ q.toNat % 2 = 0) (hx : x.all Held.sane = true) :
    RegInv (((s.emit es).setQf q).setHeld x) where
  seq_legal := .inr (by simpa using hs)
  unpowered_quiet := fun h0 => absurd (hs.symm.trans (by simpa using h0)) (by decide)
  failed_xfail := fun hf => by simp [h.failed_xfail (by simpa using hf)]
  geometry := by simpa using h.geometry
  func_value := by simpa using h.func_value
  func_bits := by simpa using h.func_bits
  dctrl_bits := by simpa using h.dctrl_bits
  emode_bits := by simpa using h.emode_bits
  txopen_iff := by simpa [State.midTransaction] using htx
  qf_zero := hq0
  qf_range := hq
  held_sane := hx

/-- What is held may change while TXOPEN stays right: from one request inside the transaction to another, or from one outside
to another. -/
theorem RegInv.setHeld (h : RegInv s) (hs : s.seq = seqHomed) {x : Option Held}
    (hm : x.any Held.midTransaction = s.midTransaction) (hx : x.all Held.sane = true) : RegInv (s.setHeld x) :=
  h.busStep hs (es := []) (h.txopen_iff.trans hm.symm) (fun hn => h.qf_zero (hm.symm.trans hn)) h.qf_range hx

/-- Emitting whole transactions: TXOPEN is afterwards what it was. -/
theorem RegInv.emit (h : RegInv s) (hs : s.seq = seqHomed) {es : List Event} (he : txAfter s.txopen es = s.txopen) :
    RegInv (s.emit es) := by
  have hstep := h.busStep hs (he.trans h.txopen_iff) h.qf_zero h.qf_range h.held_sane
  rwa [State.setQf_self _ _ (by simp), State.setHeld_self _ _ (by simp)] at hstep

/-! ### Between requests -/

theorem midTransaction_of_held_none (hh : s.held = none) : s.midTransaction = false := by
  simp [State.midTransaction, hh]

theorem RegInv.txopen_of_held_none (h : RegInv s) (hh : s.held = none) : s.txopen = false :=
  h.txopen_iff.trans (midTransaction_of_held_none hh)

/-- A state with a held request has been through INIT. -/
theorem RegInv.seq_of_held (h : RegInv s) {x : Held} (hx : s.held = some x) : s.seq = seqHomed := by
  rcases h.seq_legal with h0 | h9
  · obtain ⟨-, -, -, hn⟩ := h.unpowered_quiet h0
    simp [hx] at hn
  · exact h9

/-- A request that emits whole transactions and sets RESULT keeps the invariant. -/
theorem RegInv.perform (h : RegInv s) (hs : s.seq = seqHomed) (hh : s.held = none) {es : List Event}
    (he : txAfter false es = false) {v : Half} (ht : perform es v s = .next t) : RegInv t := by
  injection ht with ht
  have htx : s.txopen = false := h.txopen_of_held_none hh
  rw [← ht]
  exact (h.emit hs (by rw [htx, he])).setResult v

theorem txAfter_clearEvents (s : State) : txAfter false (clearEvents s) = false := by
  simp only [clearEvents, rehomeEvents_eq, txAfter_append]
  cases s.oled <;> rfl

theorem txAfter_homeEvents (p : Bool) (s : State) : txAfter p (homeEvents s) = false := rfl

theorem txAfter_flatMap_dataEvents (a : BusAddr) (bl : Bool) (bs : List Byte) :
    txAfter false (bs.flatMap (dataEvents a bl)) = false := by
  induction bs with
  | nil => rfl
  | cons b bs ih => rw [List.flatMap_cons, txAfter_append, txAfter_dataEvents, ih]

/-! ### DEFCHAR -/

/-- The row loop keeps the invariant, from the start of DEFCHAR or from a hold. -/
theorem RegInv.glyphLoop (h : RegInv s) (hs : s.seq = seqHomed) (hm : s.midTransaction = false) {left : Nat}
    (hl : left ≤ Config.cgRows) : RegInv (glyphLoop left s) := by
  have hrows (bs rest : List Byte) : RegInv ((s.emit (bs.flatMap (dataEvents s.addr s.bl))).setDin rest) := by
    have htx : s.txopen = false := h.txopen_iff.trans hm
    exact (h.emit hs (by rw [htx, txAfter_flatMap_dataEvents])).setDin rest
  have hmid (bs rest : List Byte) :
      ((s.emit (bs.flatMap (dataEvents s.addr s.bl))).setDin rest).midTransaction = false := by
    simpa [State.midTransaction] using hm
  by_cases hn : left ≤ s.din.length
  · rw [glyphLoop_enough left s hn]
    exact ((hrows _ _).setHeld (x := none) (by simpa using hs) (hmid _ _).symm rfl).setResult 0#16
  · rw [glyphLoop_short left s (by omega)]
    refine (hrows _ _).setHeld (by simpa using hs) (hmid _ _).symm ?_
    simp [Held.sane]
    omega

/-! ### WSTR -/

/-- QF after one character, where QF is even and at most the capacity (42_byte_ops.md R142). -/
theorem qf_range_of_char {q : Byte} (h : q.toNat ≤ Config.capFrames ∧ q.toNat % 2 = 0) :
    (if q.toNat + 2 > Config.capFrames then 2#8 else q + 2#8).toNat ≤ Config.capFrames
    ∧ (if q.toNat + 2 > Config.capFrames then 2#8 else q + 2#8).toNat % 2 = 0 := by
  obtain ⟨k, hk, hk1, hk127⟩ := capFrames_form
  rw [hk] at h ⊢
  split
  · simp; omega
  · simp [BitVec.toNat_add]; omega

theorem txAfter_wstrCharEvents (cap : Nat) (c : Byte) (a : BusAddr) (bl : Bool) (q : Byte) :
    txAfter true (wstrCharEvents cap c a bl q) = true := by
  rw [wstrCharEvents, txAfter_append, txAfter_sendByte]
  split <;> rfl

@[simp] theorem wstrChar_held (cap : Nat) (c : Byte) (s : State) : (wstrChar cap c s).held = s.held := by
  simp [wstrChar_eq]

/-- One character keeps the invariant of the state that holds the WSTR. -/
theorem RegInv.wstrChar (h : RegInv s) {len : Half} {left : Nat} (hh : s.held = some (.writeString len left)) (c : Byte) :
    RegInv (wstrChar Config.capFrames c s) := by
  have hmid : s.held.any Held.midTransaction = true := by simp [hh, Held.midTransaction]
  have htx : s.txopen = true := h.txopen_iff.trans hmid
  have hstep := h.busStep (h.seq_of_held hh) (es := wstrCharEvents Config.capFrames c s.addr s.bl s.qf)
    (by rw [htx, txAfter_wstrCharEvents, hmid]) (by simp [hmid]) (qf_range_of_char h.qf_range) h.held_sane
  rwa [State.setHeld_self _ _ (by simp), ← wstrChar_eq] at hstep

/-- So do several characters, and they leave what is held. -/
theorem RegInv.wstrChars (h : RegInv s) {len : Half} {left : Nat} (hh : s.held = some (.writeString len left))
    (cs : List Byte) :
    RegInv (wstrChars Config.capFrames cs s) ∧ (wstrChars Config.capFrames cs s).held = some (.writeString len left) := by
  induction cs generalizing s with
  | nil => exact ⟨h, hh⟩
  | cons c cs ih => exact ih (h.wstrChar hh c) (by simpa using hh)

/-- The end of WSTR closes the transaction, so that nothing need be held any more. -/
theorem RegInv.wstrFinish (h : RegInv s) (hs : s.seq = seqHomed) (len : Half) : RegInv (wstrFinish len s) :=
  (h.busStep hs (es := [.closeTx true]) (q := 0#8) (x := none) rfl (fun _ => rfl) (by simp) rfl).setResult len

/-- The loop keeps the invariant of the state that holds the WSTR, whether it finishes or holds again. -/
theorem RegInv.wstrLoop (h : RegInv s) {len : Half} {left : Nat} (hh : s.held = some (.writeString len left)) :
    RegInv (wstrLoop Config.capFrames len left s) := by
  have hs : s.seq = seqHomed := h.seq_of_held hh
  have hsane : 1 ≤ left ∧ left ≤ len.toNat := by simpa [hh, Held.sane] using h.held_sane
  by_cases hn : left ≤ s.din.length
  · obtain ⟨hc, hch⟩ := h.wstrChars hh (s.din.take left)
    rw [wstrLoop_enough _ _ _ _ hn]
    exact (hc.setDin (s.din.drop left)).wstrFinish (hc.seq_of_held hch) len
  · obtain ⟨hc, hch⟩ := h.wstrChars hh s.din
    rw [wstrLoop_short _ _ _ _ (by omega)]
    refine (hc.setDin []).setHeld (hc.seq_of_held hch) ?_ ?_
    · simp [State.midTransaction, hch, Held.midTransaction]
    · simp [Held.sane]; omega

/-- The Open of WSTR, seen as a hold with every character still to read (`wstrLoop_setHeld`). -/
theorem RegInv.openString (h : RegInv s) (hs : s.seq = seqHomed) {len : Half} (hl : len ≠ 0#16) :
    RegInv (((s.emit [.openTx s.addr]).setQf 0#8).setHeld (some (.writeString len len.toNat))) := by
  have hpos : len.toNat ≠ 0 := fun h0 => hl (BitVec.eq_of_toNat_eq h0)
  exact h.busStep hs rfl (fun _ => rfl) (by simp) (by simp [Held.sane]; omega)

theorem RegInv.wstrBody (h : RegInv s) (hs : s.seq = seqHomed) (len : Half) :
    RegInv (wstrBody Config.capFrames len s) := by
  by_cases hl : len = 0#16
  · rw [Machine.wstrBody, if_pos hl]
    exact h.setResult 0#16
  · rw [Machine.wstrBody, if_neg hl, ← wstrLoop_setHeld]
    exact (h.openString hs hl).wstrLoop rfl

/-! ### The accepted requests -/

/-- Setting or clearing flags outside a mask leaves the bits under the mask 0. -/
theorem bits_of_flag_update {reg v m : Byte} {flags : List Byte} (hreg : reg &&& m = 0#8)
    (hflags : ∀ f ∈ flags, f &&& m = 0#8) (hv : ∃ f ∈ flags, v = setFlag reg f ∨ v = clearFlag reg f) : v &&& m = 0#8 := by
  obtain ⟨f, hf, rfl | rfl⟩ := hv
  · exact setFlag_bits reg f m hreg (hflags f hf)
  · exact clearFlag_bits reg f m hreg

theorem RegInv.updateDisplayControl (h : RegInv s) (hs : s.seq = seqHomed) (hh : s.held = none) {d : Byte}
    (hd : d &&& 0xF8#8 = 0#8) (ht : updateDisplayControl d s = .next t) : RegInv t := by
  unfold Machine.updateDisplayControl at ht
  exact (h.setDctrl hd).perform hs hh (txAfter_commandEvents _ _ _ _) ht

theorem RegInv.updateEntryMode (h : RegInv s) (hs : s.seq = seqHomed) (hh : s.held = none) {e : Byte}
    (he : e &&& 0xFC#8 = 0#8) (ht : updateEntryMode e s = .next t) : RegInv t := by
  unfold Machine.updateEntryMode at ht
  exact (h.setEmode he).perform hs hh (txAfter_commandEvents _ _ _ _) ht

theorem RegInv.updateBacklight (h : RegInv s) (hs : s.seq = seqHomed) (hh : s.held = none) {v : Bool}
    (ht : updateBacklight v s = .next t) : RegInv t := by
  unfold Machine.updateBacklight at ht
  exact (h.setBl v).perform hs hh (txAfter_backlightEvents _ _ _) ht

/-- An accepted steady-state request keeps the invariant. -/
theorem RegInv.accepted (h : RegInv s) (hs : s.seq = seqHomed) (hh : s.held = none) {i : Instr} (hi : i.steady = true)
    (ht : accepted i s = .next t) : RegInv t := by
  rcases accepted_cases i hi s with ⟨len, rfl⟩ | ⟨slot, src, rfl⟩ | ⟨he, -⟩ | ⟨b, v, he⟩ | ⟨b, v, he⟩ | ⟨-, he⟩
    | ⟨-, he⟩ | ⟨d, he, hd⟩ | ⟨e, he, hm⟩ | ⟨v, he⟩
  case inl =>
    injection ht with ht
    exact ht ▸ h.wstrBody hs len
  case inr.inl =>
    injection ht with ht
    have htx : s.txopen = false := h.txopen_of_held_none hh
    have hselect : RegInv (s.emit (commandEvents s.addr s.bl (setCgramByte slot))) :=
      h.emit hs (by rw [htx, txAfter_commandEvents])
    exact ht ▸ hselect.glyphLoop (by simpa using hs) (midTransaction_of_held_none (by simpa using hh)) le_rfl
  all_goals rw [he] at ht
  · injection ht with ht
    exact ht ▸ h.raiseFault .rowOob
  · exact h.perform hs hh (txAfter_commandEvents _ _ _ _) ht
  · exact h.perform hs hh (txAfter_dataEvents _ _ _ _) ht
  · exact h.perform hs hh (txAfter_clearEvents s) ht
  · exact h.perform hs hh (txAfter_homeEvents _ s) ht
  · exact h.updateDisplayControl hs hh (bits_of_flag_update (h.dctrl_bits hs) (by decide) hd) ht
  · exact h.updateEntryMode hs hh (bits_of_flag_update (h.emode_bits hs) (by decide) hm) ht
  · exact h.updateBacklight hs hh ht

/-- The nine phases of INIT end with HOME, whose transaction is closed. -/
theorem txAfter_initEvents (p : Bool) (s : State) : txAfter p (phaseEvents (initPhases s)) = false := by
  simp only [phaseEvents, initPhases, List.flatMap_cons, List.flatMap_nil, txAfter_append]
  rfl

/-- An accepted INIT establishes everything the invariant says of a handle past INIT. -/
theorem RegInv.initBody (h : RegInv s) (h0 : s.seq = seqUnpowered) (bl : Bool) (a : BusAddr) (cols rows : Byte)
    (font oled : Bool) : RegInv (initBody bl a cols rows font oled s) := by
  obtain ⟨-, -, hfailed, hheld⟩ := h.unpowered_quiet h0
  rw [initBody_eq]
  constructor
  case seq_legal => exact .inr rfl
  case unpowered_quiet => exact fun h9 => absurd (show seqHomed = seqUnpowered from h9) (by decide)
  case failed_xfail =>
    intro hf
    have hnack : (s.failed || _) = true := hf
    rw [hfailed, Bool.false_or, State.nacked] at hnack
    simp [hnack]
  case geometry => simp
  case func_value => simp
  case func_bits => simp [functionFlags_bits]
  case dctrl_bits => simp; decide
  case emode_bits => simp; decide
  case txopen_iff => simp [txAfter_initEvents, State.midTransaction, hheld]
  case qf_zero => simpa using fun _ => h.qf_zero (midTransaction_of_held_none hheld)
  case qf_range => simpa using h.qf_range
  case held_sane => simp [hheld]

/-! ### Requests and steps -/

theorem RegInv.exec (h : RegInv s) (hh : s.held = none) {i : Instr} (ht : exec i s = .next t) : RegInv t := by
  cases exec_cases i s t ht with
  | refused c ht => exact ht ▸ h.raiseFault c
  | legacy _ _ ht => exact ht ▸ h.setResult 0#16
  | init a cols rows font oled _ h0 ht => exact ht ▸ h.initBody h0 _ a cols rows font oled
  | steady hi _ hs ht => exact h.accepted hs hh hi ht

theorem RegInv.resumeHeld (h : RegInv s) {x : Held} (hx : s.held = some x) (ht : resumeHeld x s = .next t) : RegInv t := by
  have hs : s.seq = seqHomed := h.seq_of_held hx
  cases x with
  | writeString len left =>
    injection ht with ht
    exact ht ▸ h.wstrLoop hx
  | defineCustomChar left =>
    injection ht with ht
    have hsane : 1 ≤ left ∧ left ≤ Config.cgRows := by simpa [hx, Held.sane] using h.held_sane
    exact ht ▸ h.glyphLoop hs (by simp [State.midTransaction, hx, Held.midTransaction]) hsane.2

/-- Settles O45: each case of the step is one of the rules above. -/
theorem stepKeepsTheRegisterInvariant : Obligations.StepKeepsTheRegisterInvariant := by
  intro s t h hstep
  cases step_cases s t hstep with
  | held x hx ht => exact h.resumeHeld hx ht
  | idle _ _ ht => exact ht ▸ h
  | illegal w ws r _ _ _ ht => exact ht ▸ (h.setRequests ws).raiseFault .illegalReq
  | run w ws i hh _ _ ht => exact (h.setRequests ws).exec hh ht

end Sys2Proof.Machine
end

section
/-! What requests and steps leave unchanged: SEQ and the registers INIT writes once (10_state.md R21 to R23, R28), and the
mirror registers outside their own requests (R37). -/

namespace Sys2Proof.Machine

variable {s t : State}

/-! ### SEQ and the configuration -/

/-- SEQ and the registers only INIT writes are the same. -/
structure KeepsHandle (s t : State) : Prop where
  seq : t.seq = s.seq
  addr : t.addr = s.addr
  cols : t.cols = s.cols
  rows : t.rows = s.rows
  font : t.font = s.font
  oled : t.oled = s.oled
  rowtab : t.rowtab = s.rowtab
  func : t.func = s.func

theorem keepsHandle_raiseFault (s : State) (c : Fault) : KeepsHandle s (s.raiseFault c) := by constructor <;> rfl

theorem keepsHandle_resumeHeld {x : Held} (ht : resumeHeld x s = .next t) : KeepsHandle s t := by
  obtain ⟨es, q, d, h, r, rfl⟩ := resumeHeld_frame x s t ht
  constructor <;> simp

theorem keepsHandle_accepted {i : Instr} (hi : i.steady = true) (ht : accepted i s = .next t) : KeepsHandle s t := by
  rcases accepted_frame i hi s with ⟨he, -⟩ | ⟨es, q, d, h, r, dc, em, b, he⟩
  · rw [he] at ht
    injection ht with ht
    exact ht ▸ keepsHandle_raiseFault s .rowOob
  · rw [he] at ht
    injection ht with ht
    rw [← ht]
    constructor <;> simp

/-- A request keeps SEQ and the configuration, or it is an accepted INIT. -/
theorem exec_keepsHandle_or_init {i : Instr} (ht : exec i s = .next t) :
    KeepsHandle s t
    ∨ (∃ a cols rows font oled, i = .init a cols rows font oled) ∧ s.seq = seqUnpowered ∧ t.seq = seqHomed := by
  cases exec_cases i s t ht with
  | refused c ht => exact .inl (ht ▸ keepsHandle_raiseFault s c)
  | legacy _ _ ht => subst ht; left; constructor <;> rfl
  | init a cols rows font oled hi h0 ht =>
    exact .inr ⟨⟨a, cols, rows, font, oled, hi⟩, h0, by rw [ht, initBody_eq]; rfl⟩
  | steady hi _ _ ht => exact .inl (keepsHandle_accepted hi ht)

/-- A step keeps SEQ and the configuration, or it takes SEQ from 0 to 9. -/
theorem step_keepsHandle_or_init (hstep : step s = .next t) :
    KeepsHandle s t ∨ s.seq = seqUnpowered ∧ t.seq = seqHomed := by
  cases step_cases s t hstep with
  | held x _ ht => exact .inl (keepsHandle_resumeHeld ht)
  | idle _ _ ht => subst ht; left; constructor <;> rfl
  | illegal w ws r _ _ _ ht => subst ht; left; constructor <;> rfl
  | run w ws i _ _ _ ht =>
    rcases exec_keepsHandle_or_init ht with hk | ⟨-, h0, h9⟩
    · exact .inl { hk with }
    · exact .inr ⟨h0, h9⟩

/-- Settles O47: what keeps the handle keeps SEQ, and only an accepted INIT does not. -/
theorem onlyInitAdvancesTheSequencer : Obligations.OnlyInitAdvancesTheSequencer := by
  constructor
  · intro s t hstep
    exact (step_keepsHandle_or_init hstep).imp_left KeepsHandle.seq
  · intro i s t hni ht
    rcases exec_keepsHandle_or_init ht with hk | ⟨⟨a, cols, rows, font, oled, hi⟩, -⟩
    · exact hk.seq
    · exact absurd hi (hni a cols rows font oled)

/-- Settles O48: the one step that does not keep the configuration starts at SEQ 0. -/
theorem configurationIsWrittenOnce : Obligations.ConfigurationIsWrittenOnce := by
  intro s t hs hstep
  obtain ⟨-, haddr, hcols, hrows, hfont, holed, hrowtab, hfunc⟩ :=
    (step_keepsHandle_or_init hstep).resolve_right fun ⟨h0, _⟩ => hs h0
  exact ⟨haddr, hcols, hrows, hfont, holed, hrowtab, hfunc⟩

/-! ### The mirror registers -/

/-- DCTRL after an accepted request, as the toggles write it (43_control_ops.md R163 to R168). -/
def dctrlAfter (i : Instr) (d : Byte) : Byte :=
  match i with
  | .display => setFlag d Config.codes.dOn
  | .noDisplay => clearFlag d Config.codes.dOn
  | .cursor => setFlag d Config.codes.cOn
  | .noCursor => clearFlag d Config.codes.cOn
  | .blink => setFlag d Config.codes.bOn
  | .noBlink => clearFlag d Config.codes.bOn
  | _ => d

/-- EMODE after an accepted request, as the entry-mode requests write it (R173 to R176). -/
def emodeAfter (i : Instr) (e : Byte) : Byte :=
  match i with
  | .setTextDirectionLtr => setFlag e Config.codes.eLeft
  | .setTextDirectionRtl => clearFlag e Config.codes.eLeft
  | .autoscroll => setFlag e Config.codes.eShift
  | .noAutoscroll => clearFlag e Config.codes.eShift
  | _ => e

/-- BL after an accepted request, as the backlight requests write it (R177 to R179). -/
def blAfter (i : Instr) (b : Bool) : Bool :=
  match i with
  | .backlightOn => true
  | .backlightOff => false
  | .setBacklight v => v
  | _ => b

/-- The mirror registers are those of the other state as the request writes them. -/
structure MirrorsAfter (i : Instr) (s t : State) : Prop where
  dctrl : t.dctrl = dctrlAfter i s.dctrl
  emode : t.emode = emodeAfter i s.emode
  bl : t.bl = blAfter i s.bl

theorem mirrorsAfter_perform {i : Instr} {es : List Event} {v : Half} {u : State} (ht : perform es v u = .next t)
    (hu : MirrorsAfter i s u) : MirrorsAfter i s t := by
  injection ht with ht
  obtain ⟨hd, he, hb⟩ := hu
  rw [← ht]
  exact ⟨by simpa using hd, by simpa using he, by simpa using hb⟩

/-- What an accepted steady-state request leaves in DCTRL, EMODE and BL. -/
theorem accepted_mirrorsAfter {i : Instr} (ht : accepted i s = .next t) : MirrorsAfter i s t := by
  cases i
  case writeString len =>
    obtain ⟨es, q, d, h, r, he⟩ := wstrBody_frame Config.capFrames len s
    injection ht with ht
    rw [← ht, he]
    constructor <;> simp [dctrlAfter, emodeAfter, blAfter]
  case defineCustomChar slot src =>
    obtain ⟨es, d, h, r, he⟩ := glyphLoop_frame Config.cgRows (s.emit (commandEvents s.addr s.bl (setCgramByte slot)))
    injection ht with ht
    rw [← ht, he]
    constructor <;> simp [dctrlAfter, emodeAfter, blAfter]
  case setCursor col row =>
    simp only [accepted] at ht
    split at ht
    · injection ht with ht
      subst ht
      constructor <;> rfl
    · exact mirrorsAfter_perform ht ⟨rfl, rfl, rfl⟩
  case init | legacyStatus | legacyKeypad | legacyBargraph | legacyContrast | legacyDelay =>
    injection ht with ht
    subst ht
    constructor <;> rfl
  all_goals exact mirrorsAfter_perform ht ⟨rfl, rfl, rfl⟩

theorem dctrlAfter_eq_self {i : Instr}
    (hi : i ∉ [Instr.display, .noDisplay, .cursor, .noCursor, .blink, .noBlink]) (d : Byte) : dctrlAfter i d = d := by
  cases i <;> simp at hi <;> rfl

theorem emodeAfter_eq_self {i : Instr}
    (hi : i ∉ [Instr.setTextDirectionLtr, .setTextDirectionRtl, .autoscroll, .noAutoscroll]) (e : Byte) :
    emodeAfter i e = e := by
  cases i <;> simp at hi <;> rfl

theorem blAfter_eq_self {i : Instr}
    (hi : i ∉ [Instr.backlightOn, .backlightOff, .setBacklight true, .setBacklight false]) (b : Bool) :
    blAfter i b = b := by
  cases i <;> simp at hi <;> rfl

/-- Settles O49: a refused request and a stub write no mirror register, and an accepted request writes only its own. -/
theorem mirrorsAreWrittenOnlyByTheirRequests : Obligations.MirrorsAreWrittenOnlyByTheirRequests := by
  intro i s t hni ht
  cases exec_cases i s t ht with
  | refused c ht => subst ht; exact ⟨fun _ => rfl, fun _ => rfl, fun _ => rfl⟩
  | legacy _ _ ht => subst ht; exact ⟨fun _ => rfl, fun _ => rfl, fun _ => rfl⟩
  | init a cols rows font oled hi _ _ => exact absurd hi (hni a cols rows font oled)
  | steady _ _ _ ht =>
    obtain ⟨hd, he, hb⟩ := accepted_mirrorsAfter ht
    exact ⟨fun hi => hd.trans (dctrlAfter_eq_self hi _), fun hi => he.trans (emodeAfter_eq_self hi _),
      fun hi => hb.trans (blAfter_eq_self hi _)⟩

end Sys2Proof.Machine
end

section
/-! The fields of STATUS, reset, and the state before INIT (10_state.md R29, R30, R38). -/

namespace Sys2Proof.Machine

variable {s s' : State}

/-! ### STATUS -/

theorem State.ready_iff (s : State) : s.ready = true ↔ s.seq = 9#4 ∧ s.failed = false := by
  simp [State.ready]

/-- The bits above the lowest field are those of the word above it. -/
theorem getLsbD_append_above {n m : Nat} (a : BitVec n) (b : BitVec m) (k : Nat) (h : m ≤ k) :
    (a ++ b).getLsbD k = a.getLsbD (k - m) := by
  simp [BitVec.getLsbD_append, Nat.not_lt.mpr h]

/-- The lowest field, where it is one bit. -/
theorem getLsbD_append_ofBool {n : Nat} (a : BitVec n) (b : Bool) : (a ++ BitVec.ofBool b).getLsbD 0 = b := by
  rw [BitVec.getLsbD_append]
  exact ofBool_bit b

/-- The bits of STATUS above SEQ and READY are those of FSET, a reserved bit, FAILED and XFAIL side by side (R29). -/
theorem State.status_getLsbD_above_ready (s : State) (k : Nat) :
    s.status.getLsbD (k + 5)
      = (0#3 ++ s.fset ++ 0#1 ++ BitVec.ofBool s.failed ++ BitVec.ofBool s.xfail).getLsbD k :=
  (getLsbD_append_above (_ ++ BitVec.ofBool s.ready) s.seq (k + 5) (by omega)).trans
    (getLsbD_append_above _ _ (k + 1) (by omega))

/-- The field of STATUS from bit 8 on is FSET under the reserved bits (R29). -/
theorem State.status_extract_fset (s : State) (start len : Nat) :
    s.status.extractLsb' (start + 8) len = (0#3 ++ s.fset).extractLsb' start len := by
  have h (w : BitVec 8) (a b c d : BitVec 1) : (w ++ a ++ b ++ c ++ d ++ s.seq).extractLsb' (start + 8) len
      = w.extractLsb' start len := by
    rw [extract_append_above _ _ _ _ (by omega), extract_append_above _ _ _ _ (by omega),
      extract_append_above _ _ _ _ (by omega), extract_append_above _ _ _ _ (by omega),
      extract_append_above _ _ _ _ (by omega)]
    rfl
  exact h _ _ _ _ _

/-- Settles O41: STATUS is its fields side by side, and each read takes one of them. -/
theorem statusReadsItsFields : Obligations.StatusReadsItsFields := by
  intro s
  refine ⟨extract_append_low _ _, ?_, ?_, ?_, ?_, ?_, ?_⟩
  · have hbit : s.status.getLsbD 4 = s.ready :=
      (getLsbD_append_above _ s.seq 4 (by omega)).trans (getLsbD_append_ofBool _ _)
    rw [hbit, s.ready_iff]
  · rw [s.status_getLsbD_above_ready 0, getLsbD_append_ofBool]
  · rw [s.status_getLsbD_above_ready 1, getLsbD_append_above _ _ _ (by omega)]
    exact getLsbD_append_ofBool _ _
  · rw [s.status_getLsbD_above_ready 2, getLsbD_append_above _ _ _ (by omega), getLsbD_append_above _ _ _ (by omega)]
    exact getLsbD_append_ofBool _ false
  · rw [s.status_extract_fset 0, extract_append_low]
  · rw [s.status_extract_fset 5, extract_append_above _ _ _ _ (by omega)]
    exact extract_all _

/-! ### Reset -/

/-- Settles O42: each value is the one `State.reset` writes. -/
theorem resetLeavesTheStatedValues : Obligations.ResetLeavesTheStatedValues :=
  ⟨rfl, rfl, rfl, rfl, rfl, rfl⟩

/-- A state before INIT, with nothing emitted and nothing held, meets the register invariant, whatever the registers without
a reset value hold. -/
theorem RegInv.of_unpowered (hseq : s.seq = seqUnpowered) (htrace : s.trace = []) (hxfail : s.xfail = false)
    (hfailed : s.failed = false) (hheld : s.held = none) (htx : s.txopen = false) (hqf : s.qf = 0#8) : RegInv s := by
  have h9 : s.seq ≠ seqHomed := by rw [hseq]; decide
  constructor
  case seq_legal => exact .inl hseq
  case unpowered_quiet => exact fun _ => ⟨htrace, hxfail, hfailed, hheld⟩
  case failed_xfail => simp [hfailed]
  case txopen_iff => simp [htx, State.midTransaction, hheld]
  case qf_zero => exact fun _ => hqf
  case qf_range => simp [hqf]
  case held_sane => simp [hheld]
  all_goals exact fun h => absurd h h9

/-- An empty trace meets the trace invariant before INIT. -/
theorem TraceInv.of_unpowered (hseq : s.seq = seqUnpowered) (htrace : s.trace = []) (hheld : s.held = none) :
    TraceInv s where
  discipline_idle := fun _ => by rw [htrace]; rfl
  discipline_mid := by simp [State.midTransaction, hheld]
  pulses := by rw [htrace]; rfl
  spare_zero := by simp [htrace, busWrites]
  enable_low := by simp [State.expander, htrace, lastWrite, busWrites]
  backlight_mirror := fun h9 => absurd (hseq.symm.trans h9) (by decide)

/-- Settles O44: agreeing with reset outside the registers INIT writes is enough for both. -/
theorem resetMeetsTheInvariants : Obligations.ResetMeetsTheInvariants := by
  have hagree (s : State) (h : AgreeOutsideHandle State.reset s) : RegInv s ∧ TraceInv s := by
    have hseq : s.seq = seqUnpowered := congrArg State.seq h
    have htrace : s.trace = [] := congrArg State.trace h
    have hheld : s.held = none := congrArg State.held h
    exact ⟨.of_unpowered hseq htrace (congrArg State.xfail h) (congrArg State.failed h) hheld (congrArg State.txopen h)
      (congrArg State.qf h), .of_unpowered hseq htrace hheld⟩
  exact ⟨hagree _ rfl, hagree⟩

/-! ### Before INIT -/

theorem AgreeOutsideHandle.refl (s : State) : AgreeOutsideHandle s s := rfl
theorem AgreeOutsideHandle.seq (h : AgreeOutsideHandle s s') : s'.seq = s.seq := by rw [h]
theorem AgreeOutsideHandle.failed (h : AgreeOutsideHandle s s') : s'.failed = s.failed := by rw [h]
theorem AgreeOutsideHandle.held (h : AgreeOutsideHandle s s') : s'.held = s.held := by rw [h]
theorem AgreeOutsideHandle.requests (h : AgreeOutsideHandle s s') : s'.requests = s.requests := by rw [h]

theorem AgreeOutsideHandle.setRequests (h : AgreeOutsideHandle s s') (ws : List ReqWord) :
    AgreeOutsideHandle (s.setRequests ws) (s'.setRequests ws) := congrArg (State.setRequests · ws) h

theorem AgreeOutsideHandle.setResult (h : AgreeOutsideHandle s s') (v : Half) :
    AgreeOutsideHandle (s.setResult v) (s'.setResult v) := congrArg (State.setResult · v) h

theorem AgreeOutsideHandle.raiseFault (h : AgreeOutsideHandle s s') (c : Fault) :
    AgreeOutsideHandle (s.raiseFault c) (s'.raiseFault c) := congrArg (State.raiseFault · c) h

/-- INIT writes every register in which the two states may differ, so from there on they are one. -/
theorem AgreeOutsideHandle.initBody_eq (h : AgreeOutsideHandle s s') (bl : Bool) (a : BusAddr) (cols rows : Byte)
    (font oled : Bool) : initBody bl a cols rows font oled s' = initBody bl a cols rows font oled s := by
  have hconf : (s'.configure bl a cols rows font oled).initMirrors = (s.configure bl a cols rows font oled).initMirrors :=
    congrArg (fun u => (u.configure bl a cols rows font oled).initMirrors) h
  simp only [initBody, hconf]

/-! ### The step before INIT -/

theorem step_of_takeRequest_illegal {u u' : State} {w : ReqWord} {r : Reject} (hh : u.held = none)
    (ht : u.takeRequest = some (w, u')) (hd : decode w = .error r) : step u = illegalRequest u' := by
  simp only [step, hh, ht, hd]

/-- The two outcomes are next states that agree outside the registers INIT writes, and are one state once SEQ has left 0. -/
def AgreeUntilInit (o o' : Host.Outcome State Fault Refusal) : Prop :=
  ∃ t t', o = .next t ∧ o' = .next t' ∧ AgreeOutsideHandle t t' ∧ (t.seq ≠ 0#4 → t = t')

theorem AgreeOutsideHandle.untilInit {t t' : State} (h : AgreeOutsideHandle t t') (h0 : t.seq = 0#4) :
    AgreeUntilInit (.next t) (.next t') := ⟨t, t', rfl, rfl, h, fun hn => absurd h0 hn⟩

/-- Before INIT a steady-state request is refused with the same fault from both states. -/
theorem agreeUntilInit_guardSteady (h0 : s.seq = 0#4) (h : AgreeOutsideHandle s s')
    (k : State → Host.Outcome State Fault Refusal) : AgreeUntilInit (guardSteady s k) (guardSteady s' k) := by
  have h0' : s'.seq = 0#4 := h.seq.trans h0
  cases hf : s.failed with
  | true =>
    rw [guardSteady_failed s k hf, guardSteady_failed s' k (h.failed.trans hf)]
    exact (h.raiseFault .handleFailed).untilInit h0
  | false =>
    rw [guardSteady_unready s k hf (by rw [h0]; decide), guardSteady_unready s' k (h.failed.trans hf) (by rw [h0']; decide)]
    exact (h.raiseFault .notInit).untilInit h0

theorem exec_init_of_unpowered (h0 : s.seq = 0#4) (a : BusAddr) (cols rows : Byte) (font oled : Bool) :
    exec (.init a cols rows font oled) s = .next (initBody (Config.blInit oled) a cols rows font oled s) := by
  simp [exec, execInit, h0]

theorem agreeUntilInit_exec (h0 : s.seq = 0#4) (h : AgreeOutsideHandle s s') (i : Instr) :
    AgreeUntilInit (exec i s) (exec i s') := by
  have hstub : AgreeUntilInit (acceptStub s) (acceptStub s') := (h.setResult 0#16).untilInit h0
  cases hi : i.steady with
  | true =>
    rw [exec_steady i hi, exec_steady i hi]
    exact agreeUntilInit_guardSteady h0 h (accepted i)
  | false =>
    cases i
    case init a cols rows font oled =>
      rw [exec_init_of_unpowered h0, exec_init_of_unpowered (h.seq.trans h0), h.initBody_eq]
      exact ⟨_, _, rfl, rfl, .refl _, fun _ => rfl⟩
    case legacyStatus | legacyKeypad | legacyBargraph | legacyContrast | legacyDelay => exact hstub
    all_goals cases hi

/-- Settles O43: before INIT a request is refused alike, or is a stub, or is the INIT that overwrites every difference. -/
theorem registersBeforeInitAreUnobservable : Obligations.RegistersBeforeInitAreUnobservable := by
  intro s s' h0 hh h
  show AgreeUntilInit (step s) (step s')
  have hh' : s'.held = none := h.held.trans hh
  cases hr : s.requests with
  | nil =>
    rw [idleBlockWaits s hh hr, idleBlockWaits s' hh' (h.requests.trans hr)]
    exact h.untilInit h0
  | cons w ws =>
    have hw := h.setRequests ws
    cases hd : decode w with
    | ok i =>
      rw [stepRunsDecodedRequest s w ws i hh hr hd, stepRunsDecodedRequest s' w ws i hh' (h.requests.trans hr) hd]
      exact agreeUntilInit_exec (s := s.setRequests ws) h0 hw i
    | error r =>
      rw [step_of_takeRequest_illegal hh (State.takeRequest_of_requests_cons hr) hd,
        step_of_takeRequest_illegal hh' (State.takeRequest_of_requests_cons (h.requests.trans hr)) hd]
      exact AgreeOutsideHandle.untilInit (t := (s.setRequests ws).raiseFault .illegalReq) (hw.raiseFault .illegalReq) h0

end Sys2Proof.Machine
end

section
/-! The bytes a trace carries, read off the events of whole transactions (20_memory.md R59, 40_frame_encoder.md R107), and the
command bytes of each accepted request: the mirror registers match them (10_state.md R27). -/

namespace Sys2Proof.Machine

/-! ### Reading a sent byte back -/

/-- A write after which the enable line is low latches nothing later on: the latches do not depend on it. -/
theorem latchesFrom_of_low (w : Wiring) {p : Byte} (hp : enHigh w p = false) (bs : List Byte) :
    latchesFrom w (some p) bs = latchesFrom w none bs := by
  cases bs with
  | nil => rfl
  | cons b bs => simp [latchesFrom, isLatch, hp]

theorem enHigh_buildFrame (w : Wiring) (hw : w.wf = true) (n : Byte) (rs bl : Bool) :
    enHigh w (buildFrame w n rs bl) = false := by
  simp [enHigh, buildFrame_en w hw]

theorem enHigh_or_en (w : Wiring) (hw : w.wf = true) (f : Byte) : enHigh w (f ||| w.en) = true := by
  obtain ⟨-, -, -, -, -, -, -, -, -, -, -, hen, -⟩ := wiring_bits_disjoint w hw
  have habsorb : (f ||| w.en) &&& w.en = w.en := by
    ext i hi
    simp only [BitVec.getElem_and, BitVec.getElem_or]
    cases f[i] <;> cases w.en[i] <;> rfl
  simpa [enHigh, habsorb] using hen

/-- What the low half of a pulse latches: the upper nibble of its byte, and register-select. -/
theorem latchOf_buildFrame (w : Wiring) (hw : w.wf = true) (n : Byte) (rs bl : Bool) :
    latchOf w (buildFrame w n rs bl) = (n.extractLsb' 4 4, rs) := by
  obtain ⟨hnr, -, hnb, -, -, -, hbr, -, -, -, hrs, -⟩ := wiring_bits_disjoint w hw
  have hnib : buildFrame w n rs bl &&& 0xF0#8 = n &&& 0xF0#8 := by
    rw [buildFrame_and, BitVec.and_comm w.rs, BitVec.and_comm w.blb, hnr, hnb]
    simp
  have hsel : (buildFrame w n rs bl &&& w.rs != 0#8) = rs := by
    rw [buildFrame_and, hnr, hbr]
    cases rs <;> simp [hrs]
  have hhigh (x : Byte) : (x &&& 0xF0#8).extractLsb' 4 4 = x.extractLsb' 4 4 := by
    revert x
    decide
  rw [latchOf, hsel, ← hhigh, hnib, hhigh]

/-- The two latches of a byte, in front of the latches of whatever follows. -/
theorem latches_sendByte_append (w : Wiring) (hw : w.wf = true) (bl : Bool) (b : Byte) (rs : Bool) (es : List Event) :
    latches w (sendByte w bl b rs ++ es)
      = (b.extractLsb' 4 4, rs) :: ((b <<< 4).extractLsb' 4 4, rs) :: latches w es := by
  simp [latches, sendByte_eq w hw, busWrites, latchesFrom, isLatch, enHigh_buildFrame w hw, enHigh_or_en w hw,
    latchOf_buildFrame w hw, latchesFrom_of_low w (enHigh_buildFrame w hw _ _ _)]

/-- A sent byte is read back, in front of the bytes of whatever follows. -/
theorem bytesSent_sendByte_append (w : Wiring) (hw : w.wf = true) (bl : Bool) (b : Byte) (rs : Bool) (es : List Event) :
    bytesSent w (sendByte w bl b rs ++ es) = (b, rs) :: bytesSent w es := by
  have hpair (x : Byte) : x.extractLsb' 4 4 ++ (x <<< 4).extractLsb' 4 4 = x := by
    revert x
    decide
  rw [bytesSent, latches_sendByte_append w hw, pairNibbles, hpair]
  rfl

/-! ### The command bytes of events -/

@[simp] theorem commandBytes_nil (w : Wiring) : commandBytes w [] = [] := rfl

theorem commandBytes_sendCommand_append (bl : Bool) (b : Byte) (es : List Event) :
    commandBytes Config.wiring (sendByte Config.wiring bl b false ++ es) = b :: commandBytes Config.wiring es := by
  simp [commandBytes, bytesSent_sendByte_append Config.wiring wiring_wf]

theorem commandBytes_commandEvents_append (a : BusAddr) (bl : Bool) (b : Byte) (es : List Event) :
    commandBytes Config.wiring (commandEvents a bl b ++ es) = b :: commandBytes Config.wiring es := by
  have hsend := commandBytes_sendCommand_append bl b (.closeTx true :: es)
  rwa [← List.singleton_append, ← List.append_assoc] at hsend

theorem commandBytes_commandEvents (a : BusAddr) (bl : Bool) (b : Byte) :
    commandBytes Config.wiring (commandEvents a bl b) = [b] := by
  simpa using commandBytes_commandEvents_append a bl b []

/-- Events that carry no command byte: they can be left out in front of any others. -/
def CommandFree (es : List Event) : Prop :=
  ∀ fs, commandBytes Config.wiring (es ++ fs) = commandBytes Config.wiring fs

theorem CommandFree.commandBytes_eq_nil {es : List Event} (h : CommandFree es) : commandBytes Config.wiring es = [] := by
  simpa using h []

theorem commandFree_nil : CommandFree [] := fun _ => rfl
theorem commandFree_openTx (a : BusAddr) : CommandFree [.openTx a] := fun _ => rfl
theorem commandFree_closeTx (stop : Bool) : CommandFree [.closeTx stop] := fun _ => rfl

theorem CommandFree.append {es fs : List Event} (he : CommandFree es) (hf : CommandFree fs) : CommandFree (es ++ fs) :=
  fun gs => by rw [List.append_assoc, he, hf]

theorem commandFree_sendData (bl : Bool) (b : Byte) : CommandFree (sendByte Config.wiring bl b true) := fun fs => by
  simp [commandBytes, bytesSent_sendByte_append Config.wiring wiring_wf]

theorem commandFree_dataEvents (a : BusAddr) (bl : Bool) (b : Byte) : CommandFree (dataEvents a bl b) :=
  (commandFree_openTx a).append ((commandFree_sendData bl b).append (commandFree_closeTx true))

theorem commandFree_flatMap_dataEvents (a : BusAddr) (bl : Bool) (bs : List Byte) :
    CommandFree (bs.flatMap (dataEvents a bl)) := by
  induction bs with
  | nil => exact commandFree_nil
  | cons b bs ih => exact (commandFree_dataEvents a bl b).append ih

theorem commandFree_wstrCharEvents (cap : Nat) (c : Byte) (a : BusAddr) (bl : Bool) (q : Byte) :
    CommandFree (wstrCharEvents cap c a bl q) := by
  refine CommandFree.append ?_ (commandFree_sendData bl c)
  split
  · exact (commandFree_closeTx false).append (commandFree_openTx a)
  · exact commandFree_nil

/-! ### The command bytes of requests -/

/-- Between the two states the trace grew by events that carry these command bytes. -/
def SendsCommands (s t : State) (bs : List Byte) : Prop :=
  ∃ es, t.trace = s.trace ++ es ∧ commandBytes Config.wiring es = bs

theorem SendsCommands.commandBytes_eq {s t : State} {bs : List Byte} (h : SendsCommands s t bs) {es : List Event}
    (ht : t.trace = s.trace ++ es) : commandBytes Config.wiring es = bs := by
  obtain ⟨es', ht', hbs⟩ := h
  rw [List.append_cancel_left (ht.symm.trans ht'), hbs]

theorem sendsCommands_perform {s t u : State} {es : List Event} {v : Half} {bs : List Byte}
    (ht : perform es v u = .next t) (hu : u.trace = s.trace) (hbs : commandBytes Config.wiring es = bs) :
    SendsCommands s t bs := by
  injection ht with ht
  exact ⟨es, by rw [← ht]; simp [hu], hbs⟩

theorem wstrChars_trace (cap : Nat) (cs : List Byte) (s : State) :
    ∃ es, CommandFree es ∧ (wstrChars cap cs s).trace = s.trace ++ es := by
  induction cs generalizing s with
  | nil => exact ⟨[], commandFree_nil, (List.append_nil _).symm⟩
  | cons c cs ih =>
    obtain ⟨es, hes, htr⟩ := ih (wstrChar cap c s)
    refine ⟨_, (commandFree_wstrCharEvents cap c s.addr s.bl s.qf).append hes, ?_⟩
    calc (wstrChars cap cs (wstrChar cap c s)).trace
      _ = (wstrChar cap c s).trace ++ es := htr
      _ = s.trace ++ (wstrCharEvents cap c s.addr s.bl s.qf ++ es) := by simp [wstrChar_eq]

theorem wstrLoop_trace (cap : Nat) (len : Half) (n : Nat) (s : State) :
    ∃ es, CommandFree es ∧ (wstrLoop cap len n s).trace = s.trace ++ es := by
  by_cases hn : n ≤ s.din.length
  · obtain ⟨es, hes, htr⟩ := wstrChars_trace cap (s.din.take n) s
    refine ⟨es ++ [.closeTx true], hes.append (commandFree_closeTx true), ?_⟩
    simp [wstrLoop_enough cap len n s hn, wstrFinish, htr]
  · obtain ⟨es, hes, htr⟩ := wstrChars_trace cap s.din s
    exact ⟨es, hes, by simp [wstrLoop_short cap len n s (by omega), htr]⟩

theorem sendsCommands_wstrBody (cap : Nat) (len : Half) (s : State) : SendsCommands s (wstrBody cap len s) [] := by
  by_cases hl : len = 0#16
  · exact ⟨[], by simp [wstrBody, hl], rfl⟩
  · obtain ⟨es, hes, htr⟩ := wstrLoop_trace cap len len.toNat ((s.emit [.openTx s.addr]).setQf 0#8)
    refine ⟨[.openTx s.addr] ++ es, ?_, ((commandFree_openTx s.addr).append hes).commandBytes_eq_nil⟩
    rw [wstrBody, if_neg hl, htr]
    simp

theorem glyphLoop_trace (n : Nat) (s : State) :
    ∃ es, CommandFree es ∧ (glyphLoop n s).trace = s.trace ++ es := by
  by_cases hn : n ≤ s.din.length
  · exact ⟨_, commandFree_flatMap_dataEvents s.addr s.bl (s.din.take n), by simp [glyphLoop_enough n s hn]⟩
  · exact ⟨_, commandFree_flatMap_dataEvents s.addr s.bl s.din, by simp [glyphLoop_short n s (by omega)]⟩

/-- The command bytes an accepted steady-state request sends. -/
def acceptedCommands (i : Instr) (s : State) : List Byte :=
  match i with
  | .command b => [b]
  | .clear => Config.codes.clearDisplay :: (if s.oled then [setDdramByte s.rowtab.r0] else [])
  | .home => [Config.codes.returnHome]
  | .setCursor col row => ((cursorAddress s.rows s.rowtab col row).map setDdramByte).toList
  | .display | .noDisplay | .cursor | .noCursor | .blink | .noBlink => [displayControlByte (dctrlAfter i s.dctrl)]
  | .scrollLeft => [shiftByte true false]
  | .scrollRight => [shiftByte true true]
  | .moveCursorLeft => [shiftByte false false]
  | .moveCursorRight => [shiftByte false true]
  | .setTextDirectionLtr | .setTextDirectionRtl | .autoscroll | .noAutoscroll => [entryModeByte (emodeAfter i s.emode)]
  | .defineCustomChar slot _ => [setCgramByte slot]
  | _ => []

theorem commandBytes_clearEvents (s : State) :
    commandBytes Config.wiring (clearEvents s)
      = Config.codes.clearDisplay :: (if s.oled then [setDdramByte s.rowtab.r0] else []) := by
  have hwait (es : List Event) : commandBytes Config.wiring (.wait Config.tClearUs :: es) = commandBytes Config.wiring es :=
    rfl
  rw [clearEvents, List.append_assoc, commandBytes_commandEvents_append, List.singleton_append, hwait, rehomeEvents_eq]
  split
  · rw [commandBytes_commandEvents]
  · rfl

theorem accepted_sendsCommands {i : Instr} {s t : State} (hi : i.steady = true) (ht : accepted i s = .next t) :
    SendsCommands s t (acceptedCommands i s) := by
  have hcommand {b : Byte} {v : Half} {u : State} (ht : perform (commandEvents s.addr s.bl b) v u = .next t)
      (hu : u.trace = s.trace) : SendsCommands s t [b] :=
    sendsCommands_perform ht hu (commandBytes_commandEvents s.addr s.bl b)
  cases i
  case init | legacyStatus | legacyKeypad | legacyBargraph | legacyContrast | legacyDelay => cases hi
  case writeString len =>
    injection ht with ht
    exact ht ▸ sendsCommands_wstrBody Config.capFrames len s
  case defineCustomChar slot src =>
    injection ht with ht
    obtain ⟨es, hes, htr⟩ := glyphLoop_trace Config.cgRows (s.emit (commandEvents s.addr s.bl (setCgramByte slot)))
    refine ⟨commandEvents s.addr s.bl (setCgramByte slot) ++ es, by rw [← ht, htr]; simp, ?_⟩
    rw [commandBytes_commandEvents_append, hes.commandBytes_eq_nil]
    rfl
  case writeChar b =>
    exact sendsCommands_perform ht rfl (commandFree_dataEvents s.addr s.bl b).commandBytes_eq_nil
  case clear => exact sendsCommands_perform ht rfl (commandBytes_clearEvents s)
  case home => exact sendsCommands_perform ht rfl (commandBytes_commandEvents_append s.addr s.bl _ [.wait Config.tHomeUs])
  case backlightOn | backlightOff | setBacklight => exact sendsCommands_perform ht rfl rfl
  case setCursor col row =>
    show SendsCommands s t ((cursorAddress s.rows s.rowtab col row).map setDdramByte).toList
    simp only [accepted] at ht
    split at ht
    · next hnone =>
      injection ht with ht
      exact ⟨[], by simp [← ht], by simp [hnone]⟩
    · next address hsome =>
      rw [hsome]
      exact hcommand ht rfl
  all_goals exact hcommand ht rfl

/-! ### The mirror registers match them -/

/-- A command byte in neither class: no display-control byte and no entry-mode byte, by its leading bits (log 10). -/
def OtherClass (b : Byte) : Prop := b &&& 0xF8#8 ≠ 0x08#8 ∧ b &&& 0xFC#8 ≠ 0x04#8

/-- The bytes sent match DCTRL and EMODE, which went from `d` to `d'` and from `e` to `e'` (10_state.md R27). -/
def BytesMatch (bs : List Byte) (d d' e e' : Byte) : Prop :=
  (∀ b ∈ bs, (b &&& 0xF8#8 = 0x08#8 → b = displayControlByte d') ∧ (b &&& 0xFC#8 = 0x04#8 → b = entryModeByte e'))
  ∧ ((∀ b ∈ bs, b &&& 0xF8#8 ≠ 0x08#8) → d' = d)
  ∧ ((∀ b ∈ bs, b &&& 0xFC#8 ≠ 0x04#8) → e' = e)

theorem bytesMatch_of_other {bs : List Byte} (h : ∀ b ∈ bs, OtherClass b) (d e : Byte) : BytesMatch bs d d e e :=
  ⟨fun b hb => ⟨fun hd => absurd hd (h b hb).1, fun he => absurd he (h b hb).2⟩, fun _ => rfl, fun _ => rfl⟩

theorem displayControlByte_class {d : Byte} (hd : d &&& 0xF8#8 = 0#8) :
    displayControlByte d &&& 0xF8#8 = 0x08#8 ∧ displayControlByte d &&& 0xFC#8 ≠ 0x04#8 := by
  revert d
  decide

theorem entryModeByte_class {e : Byte} (he : e &&& 0xFC#8 = 0#8) :
    entryModeByte e &&& 0xF8#8 ≠ 0x08#8 ∧ entryModeByte e &&& 0xFC#8 = 0x04#8 := by
  revert e
  decide

theorem bytesMatch_displayControl {d' : Byte} (hd : d' &&& 0xF8#8 = 0#8) (d e : Byte) :
    BytesMatch [displayControlByte d'] d d' e e := by
  obtain ⟨hclass, hother⟩ := displayControlByte_class hd
  exact ⟨by simp [hother], fun h => absurd hclass (h _ (by simp)), fun _ => rfl⟩

theorem bytesMatch_entryMode {e' : Byte} (he : e' &&& 0xFC#8 = 0#8) (d e : Byte) :
    BytesMatch [entryModeByte e'] d d e e' := by
  obtain ⟨hother, hclass⟩ := entryModeByte_class he
  exact ⟨by simp [hother], fun _ => rfl, fun h => absurd hclass (h _ (by simp))⟩

theorem otherClass_setDdramByte (address : Byte) : OtherClass (setDdramByte address) := by
  revert address
  unfold OtherClass
  decide

theorem otherClass_setCgramByte (slot : Byte) : OtherClass (setCgramByte slot) := by
  revert slot
  unfold OtherClass
  decide

theorem otherClass_shiftByte (display right : Bool) : OtherClass (shiftByte display right) := by
  revert display right
  unfold OtherClass
  decide

theorem dctrlAfter_bits (i : Instr) {d : Byte} (hd : d &&& 0xF8#8 = 0#8) : dctrlAfter i d &&& 0xF8#8 = 0#8 := by
  cases i
  case display | cursor | blink => exact setFlag_bits d _ _ hd (by decide)
  case noDisplay | noCursor | noBlink => exact clearFlag_bits d _ _ hd
  all_goals exact hd

theorem emodeAfter_bits (i : Instr) {e : Byte} (he : e &&& 0xFC#8 = 0#8) : emodeAfter i e &&& 0xFC#8 = 0#8 := by
  cases i
  case setTextDirectionLtr | autoscroll => exact setFlag_bits e _ _ he (by decide)
  case setTextDirectionRtl | noAutoscroll => exact clearFlag_bits e _ _ he
  all_goals exact he

/-- Every request but CMD sends bytes that match the mirror registers as it writes them. -/
theorem acceptedCommands_match {i : Instr} (hi : ∀ b, i ≠ .command b) {s : State} (hd : s.dctrl &&& 0xF8#8 = 0#8)
    (he : s.emode &&& 0xFC#8 = 0#8) :
    BytesMatch (acceptedCommands i s) s.dctrl (dctrlAfter i s.dctrl) s.emode (emodeAfter i s.emode) := by
  have hone {b : Byte} (hb : OtherClass b) : BytesMatch [b] s.dctrl s.dctrl s.emode s.emode :=
    bytesMatch_of_other (by simpa using hb) _ _
  have hd' := dctrlAfter_bits i hd
  have he' := emodeAfter_bits i he
  cases i
  case command b => exact absurd rfl (hi b)
  case display | noDisplay | cursor | noCursor | blink | noBlink => exact bytesMatch_displayControl hd' _ _
  case setTextDirectionLtr | setTextDirectionRtl | autoscroll | noAutoscroll => exact bytesMatch_entryMode he' _ _
  case scrollLeft | scrollRight | moveCursorLeft | moveCursorRight => exact hone (otherClass_shiftByte _ _)
  case defineCustomChar slot src => exact hone (otherClass_setCgramByte slot)
  case home => exact hone ⟨by decide, by decide⟩
  case clear =>
    refine bytesMatch_of_other (List.forall_mem_cons.mpr ⟨⟨by decide, by decide⟩, ?_⟩) _ _
    split
    · simpa using otherClass_setDdramByte s.rowtab.r0
    · simp
  case setCursor col row =>
    refine bytesMatch_of_other (fun b hb => ?_) _ _
    obtain ⟨address, -, rfl⟩ := Option.map_eq_some_iff.mp (Option.mem_toList.mp hb)
    exact otherClass_setDdramByte address
  all_goals exact bytesMatch_of_other (bs := []) (by simp) _ _

/-- Settles O36: the command bytes of the events are those the accepted request sends, and they match the registers as it
leaves them. -/
theorem mirrorsMatchTheBytesSent : Obligations.MirrorsMatchTheBytesSent := by
  intro i s t es hi hni ⟨hf, hseq⟩ hd he ht htr
  have hacc : accepted i s = .next t := by rwa [exec_steady i hi, guardSteady_ready s _ hf hseq] at ht
  obtain ⟨hd', he', -⟩ := accepted_mirrorsAfter hacc
  rw [(accepted_sendsCommands hi hacc).commandBytes_eq htr, hd', he']
  exact acceptedCommands_match hni hd he

end Sys2Proof.Machine
end

section
/-! A request that holds on an empty DIN stream (20_memory.md R60, 60_exceptions.md R212): the two loops one byte at a time,
so that a byte supplied late is read as it would have been read before. -/

namespace Sys2Proof.Machine

variable {s t : State}

/-! ### The loops, by what DIN gives -/

theorem wstrLoop_of_din_nil (cap : Nat) (len : Half) (n : Nat) (hd : s.din = []) :
    wstrLoop cap len (n + 1) s = s.setHeld (some (.writeString len (n + 1))) := by
  simp only [wstrLoop, State.dinRead, hd]

theorem wstrLoop_of_din_cons (cap : Nat) (len : Half) (n : Nat) {c : Byte} {cs : List Byte} (hd : s.din = c :: cs) :
    wstrLoop cap len (n + 1) s = wstrLoop cap len n (wstrChar cap c (s.setDin cs)) := by
  simp only [wstrLoop, State.dinRead, hd]

theorem glyphLoop_of_din_nil (n : Nat) (hd : s.din = []) :
    glyphLoop (n + 1) s = s.setHeld (some (.defineCustomChar (n + 1))) := by
  simp only [glyphLoop, State.dinRead, hd]

theorem glyphLoop_of_din_cons (n : Nat) {r : Byte} {rs : List Byte} (hd : s.din = r :: rs) :
    glyphLoop (n + 1) s = glyphLoop n ((s.setDin rs).emit (dataEvents s.addr s.bl r)) := by
  simp only [glyphLoop, State.dinRead, hd, State.setDin_addr, State.setDin_bl]

theorem step_of_held {x : Held} (hx : s.held = some x) : step s = resumeHeld x s := by
  simp only [step, hx]

/-! ### Holding on -/

/-- With DIN empty a request that has something left to read holds as it is held already. -/
theorem resumeHeld_of_din_nil {x : Held} (hx : s.held = some x) (hsane : x.sane = true) (hd : s.din = []) :
    resumeHeld x s = .next s := by
  have hself : s.setHeld (some x) = s := State.setHeld_self s _ hx
  cases x with
  | writeString len left =>
    obtain ⟨hpos, -⟩ : 1 ≤ left ∧ left ≤ len.toNat := by simpa [Held.sane] using hsane
    obtain ⟨n, rfl⟩ := Nat.exists_eq_add_of_le' hpos
    rw [resumeHeld, wstrLoop_of_din_nil _ _ _ hd, hself]
  | defineCustomChar left =>
    obtain ⟨hpos, -⟩ : 1 ≤ left ∧ left ≤ Config.cgRows := by simpa [Held.sane] using hsane
    obtain ⟨n, rfl⟩ := Nat.exists_eq_add_of_le' hpos
    rw [resumeHeld, glyphLoop_of_din_nil _ hd, hself]

/-- Settles O11: the step goes on with the held request, which holds on; and a held state is not final. -/
theorem heldRequestHoldsWhileDinIsEmpty : Obligations.HeldRequestHoldsWhileDinIsEmpty := by
  intro s x hx hsane hd
  refine ⟨(step_of_held hx).trans (resumeHeld_of_din_nil hx hsane hd), ?_⟩
  rintro ⟨hnone, -, -⟩
  cases hx.symm.trans hnone

/-! ### Bytes supplied late -/

theorem wstrChar_supplyDin (cap : Nat) (c : Byte) (s : State) (bs : List Byte) :
    wstrChar cap c (s.supplyDin bs) = (wstrChar cap c s).supplyDin bs := by
  simp only [State.supplyDin, wstrChar_setDin, wstrChar_din]

theorem State.emit_supplyDin (s : State) (bs : List Byte) (es : List Event) :
    (s.supplyDin bs).emit es = (s.emit es).supplyDin bs := by
  simp only [State.supplyDin, State.emit_setDin, State.emit_din]

/-- Where the loop of WSTR holds, going on with more bytes is the loop with those bytes behind the ones it has read. -/
theorem resumeHeld_wstrLoop (len : Half) (n : Nat) (s : State) (bs : List Byte) {x : Held}
    (hx : (wstrLoop Config.capFrames len n s).held = some x) :
    resumeHeld x ((wstrLoop Config.capFrames len n s).supplyDin bs)
      = .next (wstrLoop Config.capFrames len n (s.supplyDin bs)) := by
  induction n generalizing s with
  | zero => cases hx
  | succ n ih =>
    cases hd : s.din with
    | nil =>
      rw [wstrLoop_of_din_nil _ _ _ hd] at hx ⊢
      cases hx
      exact congrArg Host.Outcome.next (wstrLoop_setHeld _ _ _ (s.supplyDin bs) _)
    | cons c cs =>
      have hd' : (s.supplyDin bs).din = c :: (cs ++ bs) := by simp [hd]
      have hchar : wstrChar Config.capFrames c ((s.supplyDin bs).setDin (cs ++ bs))
          = (wstrChar Config.capFrames c (s.setDin cs)).supplyDin bs :=
        wstrChar_supplyDin _ c (s.setDin cs) bs
      rw [wstrLoop_of_din_cons _ _ _ hd] at hx ⊢
      rw [wstrLoop_of_din_cons _ _ _ hd', hchar]
      exact ih _ hx

/-- The same of the row loop of DEFCHAR. -/
theorem resumeHeld_glyphLoop (n : Nat) (s : State) (bs : List Byte) {x : Held} (hx : (glyphLoop n s).held = some x) :
    resumeHeld x ((glyphLoop n s).supplyDin bs) = .next (glyphLoop n (s.supplyDin bs)) := by
  induction n generalizing s with
  | zero => cases hx
  | succ n ih =>
    cases hd : s.din with
    | nil =>
      rw [glyphLoop_of_din_nil _ hd] at hx ⊢
      cases hx
      exact congrArg Host.Outcome.next (glyphLoop_setHeld _ (s.supplyDin bs) _)
    | cons r rs =>
      have hd' : (s.supplyDin bs).din = r :: (rs ++ bs) := by simp [hd]
      have hrow : ((s.supplyDin bs).setDin (rs ++ bs)).emit (dataEvents s.addr s.bl r)
          = ((s.setDin rs).emit (dataEvents s.addr s.bl r)).supplyDin bs := State.emit_supplyDin (s.setDin rs) bs _
      rw [glyphLoop_of_din_cons _ hd] at hx ⊢
      rw [glyphLoop_of_din_cons _ hd', State.supplyDin_addr, State.supplyDin_bl, hrow]
      exact ih _ hx

/-- The same of the whole WSTR: what it does before its loop reads no input. -/
theorem resumeHeld_wstrBody (len : Half) (hh : s.held = none) (bs : List Byte) {x : Held}
    (hx : (wstrBody Config.capFrames len s).held = some x) :
    resumeHeld x ((wstrBody Config.capFrames len s).supplyDin bs)
      = .next (wstrBody Config.capFrames len (s.supplyDin bs)) := by
  by_cases hl : len = 0#16
  · have hnone : (wstrBody Config.capFrames len s).held = none := by simp [wstrBody, hl, hh]
    cases hx.symm.trans hnone
  · have hopen : ((s.supplyDin bs).emit [.openTx s.addr]).setQf 0#8
        = ((s.emit [.openTx s.addr]).setQf 0#8).supplyDin bs := rfl
    simp only [wstrBody, if_neg hl, State.supplyDin_addr, hopen] at hx ⊢
    exact resumeHeld_wstrLoop len _ _ bs hx

/-- A steady-state request that ends up holding was accepted, and with more bytes on DIN it is accepted too. -/
theorem accepted_of_exec_holds {i : Instr} (hi : i.steady = true) (hh : s.held = none) (ht : exec i s = .next t)
    (hheld : t.held ≠ none) : accepted i s = .next t ∧ ∀ bs, exec i (s.supplyDin bs) = accepted i (s.supplyDin bs) := by
  cases exec_cases i s t ht with
  | refused c ht => exact absurd hh (by rwa [ht] at hheld)
  | legacy hs _ _ => cases hi.symm.trans hs
  | init a cols rows font oled hinit _ _ => subst hinit; cases hi
  | steady _ hf hs hacc =>
    refine ⟨hacc, fun bs => ?_⟩
    rw [exec_steady i hi, guardSteady_ready (s.supplyDin bs) _ hf hs]

/-- Settles O12: a request that holds was accepted, and its loop goes on from the hold as it would have gone on with the
bytes there. -/
theorem lateDinBytesGiveTheSameRun : Obligations.LateDinBytesGiveTheSameRun := by
  intro i s t bs hi hh ht hheld
  obtain ⟨x, hx⟩ := Option.ne_none_iff_exists'.mp hheld
  have hstep : step (t.supplyDin bs) = resumeHeld x (t.supplyDin bs) := step_of_held hx
  have hsteady : i.steady = true := by
    obtain ⟨len, rfl⟩ | ⟨slot, src, rfl⟩ := hi <;> rfl
  obtain ⟨hacc, hlate⟩ := accepted_of_exec_holds hsteady hh ht hheld
  rw [hstep, hlate]
  obtain ⟨len, rfl⟩ | ⟨slot, src, rfl⟩ := hi
  · injection hacc with hacc
    subst hacc
    exact resumeHeld_wstrBody len hh bs hx
  · injection hacc with hacc
    subst hacc
    have hselect := State.emit_supplyDin s bs (commandEvents s.addr s.bl (setCgramByte slot))
    rw [resumeHeld_glyphLoop _ _ bs hx, ← hselect]
    rfl

end Sys2Proof.Machine
end

section
/-! The trace invariant (20_memory.md R52, R53; 40_frame_encoder.md R101, R106; 10_state.md R27): which runs of events may go
onto a trace, one rule per thing the block emits; then what emitting them leaves of the trace, and the requests. -/

namespace Sys2Proof.Machine

variable {s t : State}

/-! ### The bytes written -/

theorem lastWrite_append (es fs : List Event) : lastWrite (es ++ fs) = (lastWrite fs).or (lastWrite es) := by
  rw [lastWrite, busWrites_append, List.getLast?_append]
  rfl

/-- A byte after which the expander shows the enable line low and the backlight bit as `bl` has it (R27, R106). -/
def RestsWith (bl : Bool) (b : Byte) : Prop :=
  enHigh Config.wiring b = false ∧ b &&& Config.wiring.blb = (if bl then Config.wiring.blb else 0#8)

theorem buildFrame_spare (n : Byte) (rs bl : Bool) :
    buildFrame Config.wiring n rs bl &&& Config.wiring.spare = 0#8 := by
  obtain ⟨-, -, -, -, -, -, -, hn, hrs, hblb, -⟩ := wiring_bits_disjoint Config.wiring wiring_wf
  rw [buildFrame_and, hn, hrs, hblb]
  simp

theorem pulseHigh_spare (n : Byte) (rs bl : Bool) :
    (buildFrame Config.wiring n rs bl ||| Config.wiring.en) &&& Config.wiring.spare = 0#8 := by
  have hen : Config.wiring.en &&& Config.wiring.spare = 0#8 := by decide
  rw [BitVec.and_or_distrib_right, buildFrame_spare, hen]
  rfl

theorem restsWith_buildFrame (n : Byte) (rs bl : Bool) : RestsWith bl (buildFrame Config.wiring n rs bl) := by
  obtain ⟨-, -, hn, -, -, hrs, -⟩ := wiring_bits_disjoint Config.wiring wiring_wf
  refine ⟨enHigh_buildFrame Config.wiring wiring_wf n rs bl, ?_⟩
  rw [buildFrame_and, hn, hrs]
  simp

/-- The high half of a pulse without its enable bit is the low half (40_frame_encoder.md R101). -/
theorem pulseHigh_low (n : Byte) (rs bl : Bool) :
    (buildFrame Config.wiring n rs bl ||| Config.wiring.en) &&& ~~~Config.wiring.en
      = buildFrame Config.wiring n rs bl := by
  rw [BitVec.and_or_distrib_right, buildFrame_low Config.wiring wiring_wf]
  simp

/-! ### Runs of events -/

/-- The events take the discipline from phase `p` to phase `q`, in whole pulses, with the spare bit 0 in every byte; the last
byte they write, if any, leaves the enable line low and the backlight bit as `bl` has it. -/
structure CleanRun (a : BusAddr) (bl : Bool) (p q : BusPhase) (es : List Event) : Prop where
  discipline : busRun a p es = some q
  pulses : pulsesOk Config.wiring es = true
  spare_zero : (busWrites es).all (fun b => (b &&& Config.wiring.spare) == 0#8) = true
  rests : ∀ b, lastWrite es = some b → RestsWith bl b

section Runs

variable {a : BusAddr} {bl bl' : Bool} {p q r : BusPhase} {es fs : List Event}

/-- Two runs in a row: the first may have been written under another backlight value if the second writes a byte. -/
theorem CleanRun.append_of_write (he : CleanRun a bl p q es) (hf : CleanRun a bl' q r fs)
    (hbl : lastWrite fs = none → bl = bl') : CleanRun a bl' p r (es ++ fs) where
  discipline := by rw [busRun_append, he.discipline]; exact hf.discipline
  pulses := pulsesFrom_append Config.wiring none es fs he.pulses hf.pulses
  spare_zero := by rw [busWrites_append, List.all_append, he.spare_zero, hf.spare_zero]; rfl
  rests := by
    intro b hb
    rw [lastWrite_append] at hb
    cases hw : lastWrite fs with
    | none => exact hbl hw ▸ he.rests b (by simpa [hw] using hb)
    | some c => exact hf.rests b (by simpa [hw] using hb)

theorem CleanRun.append (he : CleanRun a bl p q es) (hf : CleanRun a bl q r fs) : CleanRun a bl p r (es ++ fs) :=
  he.append_of_write hf fun _ => rfl

/-- Events that write no byte need only keep the discipline. -/
theorem cleanRun_of_no_write (hrun : busRun a p es = some q) (hpulse : pulsesOk Config.wiring es = true)
    (hw : busWrites es = []) : CleanRun a bl p q es where
  discipline := hrun
  pulses := hpulse
  spare_zero := by rw [hw]; rfl
  rests := by simp [lastWrite, hw]

theorem cleanRun_nil : CleanRun a bl p p [] := cleanRun_of_no_write rfl rfl rfl
theorem cleanRun_wait (us : Nat) : CleanRun a bl .idle .idle [.wait us] := cleanRun_of_no_write rfl rfl rfl
theorem cleanRun_close : CleanRun a bl .writing .idle [.closeTx true] := cleanRun_of_no_write rfl rfl rfl
theorem cleanRun_open : CleanRun a bl .idle .opened [.openTx a] :=
  cleanRun_of_no_write (by simp [busRun, busPhase]) rfl rfl

/-- The flush of WSTR: the continuation follows the Close at once (42_byte_ops.md R142). -/
theorem cleanRun_flush : CleanRun a bl .writing .opened [.closeTx false, .openTx a] :=
  cleanRun_of_no_write (by simp [busRun, busPhase]) rfl rfl

/-- The phases in which a byte may be written. -/
def BusPhase.isOpen : BusPhase → Bool
  | .opened | .writing => true
  | .idle | .flushed => false

theorem busPhase_wr (hp : p.isOpen = true) (b : Byte) : busPhase a p (.wr b) = some .writing := by
  cases p
  case idle | flushed => cases hp
  case opened | writing => rfl

theorem cleanRun_nibbleOut (hp : p.isOpen = true) (n : Byte) (rs : Bool) :
    CleanRun a bl p .writing (nibbleOut Config.wiring bl n rs) := by
  rw [nibbleOut, pulseEnable, buildFrame_low Config.wiring wiring_wf]
  constructor
  case discipline => simp only [busRun, busPhase_wr hp, busPhase_wr (p := .writing) rfl]
  case pulses => simp [pulsesOk, pulsesFrom, enHigh_or_en Config.wiring wiring_wf, pulseHigh_low]
  case spare_zero => simp [busWrites, buildFrame_spare, pulseHigh_spare]
  case rests => simpa [lastWrite, busWrites] using restsWith_buildFrame n rs bl

theorem cleanRun_sendByte (hp : p.isOpen = true) (b : Byte) (rs : Bool) :
    CleanRun a bl p .writing (sendByte Config.wiring bl b rs) :=
  (cleanRun_nibbleOut hp _ rs).append (cleanRun_nibbleOut rfl _ rs)

/-! ### Transactions -/

theorem CleanRun.transaction (h : CleanRun a bl .opened .writing es) : CleanRun a bl .idle .idle (transaction a es) :=
  cleanRun_open.append (h.append cleanRun_close)

theorem cleanRun_commandEvents (b : Byte) : CleanRun a bl .idle .idle (commandEvents a bl b) :=
  (cleanRun_sendByte rfl b false).transaction

theorem cleanRun_dataEvents (b : Byte) : CleanRun a bl .idle .idle (dataEvents a bl b) :=
  (cleanRun_sendByte rfl b true).transaction

theorem cleanRun_nibbleEvents (n : Byte) : CleanRun a bl .idle .idle (nibbleEvents a bl n) :=
  (cleanRun_nibbleOut rfl n false).transaction

theorem cleanRun_backlightEvents : CleanRun a bl .idle .idle (backlightEvents a bl) := by
  refine CleanRun.transaction ⟨rfl, ?_, ?_, ?_⟩
  · cases bl <;> rfl
  · cases bl <;> rfl
  · intro b hb
    cases hb
    cases bl
    · exact ⟨rfl, rfl⟩
    · exact ⟨rfl, rfl⟩

theorem cleanRun_clearEvents (s : State) : CleanRun s.addr s.bl .idle .idle (clearEvents s) := by
  rw [clearEvents, rehomeEvents_eq]
  refine ((cleanRun_commandEvents _).append (cleanRun_wait _)).append ?_
  split
  · exact cleanRun_commandEvents _
  · exact cleanRun_nil

theorem cleanRun_homeEvents (s : State) : CleanRun s.addr s.bl .idle .idle (homeEvents s) :=
  (cleanRun_commandEvents _).append (cleanRun_wait _)

/-! ### INIT -/

theorem CleanRun.wait_cons (us : Nat) (h : CleanRun a bl .idle .idle es) : CleanRun a bl .idle .idle (.wait us :: es) :=
  (cleanRun_wait us).append h

theorem cleanRun_phaseEvents {ps : List (BitVec 4 × List Event)} (h : ∀ x ∈ ps, CleanRun a bl .idle .idle x.2) :
    CleanRun a bl .idle .idle (phaseEvents ps) := by
  induction ps with
  | nil => exact cleanRun_nil
  | cons x ps ih =>
    rw [List.forall_mem_cons] at h
    exact h.1.append (ih h.2)

theorem cleanRun_initEvents (s : State) : CleanRun s.addr s.bl .idle .idle (phaseEvents (initPhases s)) := by
  refine cleanRun_phaseEvents ?_
  simp only [initPhases, List.forall_mem_cons, List.not_mem_nil, false_imp_iff, implies_true, and_true]
  exact ⟨(cleanRun_nibbleEvents _).wait_cons _, (cleanRun_nibbleEvents _).wait_cons _,
    (cleanRun_nibbleEvents _).wait_cons _, (cleanRun_nibbleEvents _).wait_cons _, cleanRun_commandEvents _,
    cleanRun_commandEvents _, cleanRun_clearEvents s, cleanRun_commandEvents _, cleanRun_homeEvents s⟩

theorem lastWrite_initEvents (s : State) : lastWrite (phaseEvents (initPhases s)) ≠ none := by
  rw [lastWrite, ne_eq, List.getLast?_eq_none_iff]
  exact List.cons_ne_nil _ _

end Runs

/-! ### The trace of a state past INIT -/

/-- The trace of the state is a clean run from the idle bus to phase `p`, and it writes a byte. -/
structure TraceAt (s : State) (p : BusPhase) : Prop where
  clean : CleanRun s.addr s.bl .idle p s.trace
  written : lastWrite s.trace ≠ none

/-- The phase of a WSTR between two characters: its transaction is open, and empty only while QF is 0. -/
def StringPhase (qf : Byte) (p : BusPhase) : Prop := p = .writing ∨ (p = .opened ∧ qf = 0#8)

/-- The trace invariant, put together from the phase that fits what is held. -/
theorem TraceAt.traceInv {p : BusPhase} (h : TraceAt s p) (hidle : s.midTransaction = false → p = .idle)
    (hmid : s.midTransaction = true → StringPhase s.qf p) : TraceInv s where
  discipline_idle := fun hm => hidle hm ▸ h.clean.discipline
  discipline_mid := fun hm => by
    rcases hmid hm with rfl | ⟨rfl, hq⟩
    · exact .inl h.clean.discipline
    · exact .inr ⟨h.clean.discipline, hq⟩
  pulses := h.clean.pulses
  spare_zero := h.clean.spare_zero
  enable_low := fun b hb => (h.clean.rests b hb).1
  backlight_mirror := fun _ => by
    obtain ⟨b, hb⟩ := Option.ne_none_iff_exists'.mp h.written
    exact ⟨b, hb, (h.clean.rests b hb).2⟩

theorem TraceAt.traceInv_of_idle (h : TraceAt s .idle) (hm : s.midTransaction = false) : TraceInv s :=
  h.traceInv (fun _ => rfl) (fun hn => by cases hm.symm.trans hn)

/-- The trace invariant, taken apart: the phase is the one the discipline gives. -/
theorem TraceInv.traceAt (h : TraceInv s) (hs : s.seq = seqHomed) {p : BusPhase}
    (hp : busRun s.addr .idle s.trace = some p) : TraceAt s p := by
  obtain ⟨b, hb, hbl⟩ := h.backlight_mirror hs
  have hlast : lastWrite s.trace = some b := hb
  refine ⟨⟨hp, h.pulses, h.spare_zero, ?_⟩, by simp [hlast]⟩
  intro c hc
  cases hlast.symm.trans hc
  exact ⟨h.enable_low b hb, hbl⟩

theorem TraceInv.traceAt_idle (h : TraceInv s) (hs : s.seq = seqHomed) (hm : s.midTransaction = false) :
    TraceAt s .idle := h.traceAt hs (h.discipline_idle hm)

theorem TraceInv.traceAt_mid (h : TraceInv s) (hs : s.seq = seqHomed) (hm : s.midTransaction = true) :
    ∃ p, TraceAt s p ∧ StringPhase s.qf p := by
  rcases h.discipline_mid hm with hp | ⟨hp, hq⟩
  · exact ⟨.writing, h.traceAt hs hp, .inl rfl⟩
  · exact ⟨.opened, h.traceAt hs hp, .inr ⟨rfl, hq⟩⟩

/-! ### Operations that write no event, and emitting -/

theorem TraceInv.setRequests (h : TraceInv s) (ws : List ReqWord) : TraceInv (s.setRequests ws) := { h with }
theorem TraceInv.setResult (h : TraceInv s) (v : Half) : TraceInv (s.setResult v) := { h with }
theorem TraceInv.raiseFault (h : TraceInv s) (c : Fault) : TraceInv (s.raiseFault c) := { h with }

section Operations

variable {p q : BusPhase}

theorem TraceAt.setDctrl (h : TraceAt s p) (d : Byte) : TraceAt (s.setDctrl d) p := { h with }
theorem TraceAt.setEmode (h : TraceAt s p) (e : Byte) : TraceAt (s.setEmode e) p := { h with }
theorem TraceAt.setSeq (h : TraceAt s p) (v : BitVec 4) : TraceAt (s.setSeq v) p := { h with }
theorem TraceAt.setFailed (h : TraceAt s p) (v : Bool) : TraceAt (s.setFailed v) p := { h with }
theorem TraceAt.setDin (h : TraceAt s p) (bs : List Byte) : TraceAt (s.setDin bs) p := { h with }
theorem TraceAt.setQf (h : TraceAt s p) (v : Byte) : TraceAt (s.setQf v) p := { h with }
theorem TraceAt.setHeld (h : TraceAt s p) (x : Option Held) : TraceAt (s.setHeld x) p := { h with }
theorem TraceAt.setResult (h : TraceAt s p) (v : Half) : TraceAt (s.setResult v) p := { h with }

theorem TraceAt.emit {es : List Event} (h : TraceAt s p) (he : CleanRun s.addr s.bl p q es) : TraceAt (s.emit es) q where
  clean := by simpa using h.clean.append he
  written := by simp [lastWrite_append, h.written]

/-- The first events of all: they must write a byte. -/
theorem TraceAt.emit_of_trace_nil {es : List Event} (htrace : s.trace = []) (he : CleanRun s.addr s.bl .idle p es)
    (hw : lastWrite es ≠ none) : TraceAt (s.emit es) p where
  clean := by simpa [htrace] using he
  written := by simpa [htrace] using hw

/-- Events that write a byte may be emitted under a new BL: from then on the trace shows the new one. -/
theorem TraceAt.setBl_emit {es : List Event} (h : TraceAt s p) (v : Bool) (he : CleanRun s.addr v p q es)
    (hw : lastWrite es ≠ none) : TraceAt ((s.setBl v).emit es) q where
  clean := by simpa using h.clean.append_of_write he fun hn => absurd hn hw
  written := by simp [lastWrite_append, h.written]

end Operations

/-- A request that emits whole transactions and sets RESULT keeps the invariant. -/
theorem TraceAt.perform (h : TraceAt s .idle) (hh : s.held = none) {es : List Event}
    (he : CleanRun s.addr s.bl .idle .idle es) {v : Half} (ht : perform es v s = .next t) : TraceInv t := by
  injection ht with ht
  exact ht ▸ ((h.emit he).setResult v).traceInv_of_idle (midTransaction_of_held_none (by simpa using hh))

theorem TraceAt.updateBacklight (h : TraceAt s .idle) (hh : s.held = none) {v : Bool}
    (ht : updateBacklight v s = .next t) : TraceInv t := by
  injection ht with ht
  have hbus : TraceAt ((s.setBl v).emit (backlightEvents s.addr v)) .idle :=
    h.setBl_emit v cleanRun_backlightEvents (by cases v <;> simp [backlightEvents, transaction, lastWrite, busWrites])
  exact ht ▸ (hbus.setResult 0#16).traceInv_of_idle (midTransaction_of_held_none (by simpa using hh))

/-! ### The loops -/

/-- The row loop of DEFCHAR, from its start or from a hold, stays between transactions. -/
theorem TraceAt.glyphLoop (h : TraceAt s .idle) (hm : s.midTransaction = false) (n : Nat) :
    TraceInv (glyphLoop n s) := by
  induction n generalizing s with
  | zero => exact ((h.setHeld none).setResult 0#16).traceInv_of_idle rfl
  | succ n ih =>
    cases hd : s.din with
    | nil =>
      rw [glyphLoop_of_din_nil n hd]
      exact (h.setHeld _).traceInv_of_idle rfl
    | cons r rs =>
      rw [glyphLoop_of_din_cons n hd]
      have hmid : ((s.setDin rs).emit (dataEvents s.addr s.bl r)).midTransaction = s.midTransaction := by
        simp [State.midTransaction]
      exact ih ((h.setDin rs).emit (cleanRun_dataEvents r)) (hmid.trans hm)

/-- One character: where it flushes, QF is not 0, so that the transaction is not empty (42_byte_ops.md R142). -/
theorem cleanRun_wstrCharEvents {a : BusAddr} {bl : Bool} {p : BusPhase} {qf : Byte} (hp : StringPhase qf p) (c : Byte) :
    CleanRun a bl p .writing (wstrCharEvents Config.capFrames c a bl qf) := by
  obtain ⟨k, hcap, hk, -⟩ := capFrames_form
  rw [wstrCharEvents]
  split
  · next hfull =>
    obtain rfl : p = .writing := hp.resolve_right fun ⟨_, hq⟩ => by simp [hq] at hfull; omega
    exact cleanRun_flush.append (cleanRun_sendByte rfl c true)
  · have hopen : p.isOpen = true := by rcases hp with rfl | ⟨rfl, -⟩ <;> rfl
    exact cleanRun_sendByte hopen c true

theorem TraceAt.wstrChar {p : BusPhase} (h : TraceAt s p) (hp : StringPhase s.qf p) (c : Byte) :
    TraceAt (wstrChar Config.capFrames c s) .writing := by
  rw [wstrChar_eq]
  exact (h.emit (cleanRun_wstrCharEvents hp c)).setQf _

/-- The loop of WSTR, from its start or from a hold: it finishes only after a character. -/
theorem TraceAt.wstrLoop {p : BusPhase} (h : TraceAt s p) (hp : StringPhase s.qf p) (len : Half) {n : Nat}
    (hn : n = 0 → p = .writing) : TraceInv (wstrLoop Config.capFrames len n s) := by
  induction n generalizing s p with
  | zero =>
    have hclose : TraceAt (s.emit [.closeTx true]) .idle := h.emit (hn rfl ▸ cleanRun_close)
    exact (((hclose.setQf 0#8).setHeld none).setResult len).traceInv_of_idle rfl
  | succ n ih =>
    cases hd : s.din with
    | nil =>
      rw [wstrLoop_of_din_nil _ _ _ hd]
      exact (h.setHeld _).traceInv nofun (fun _ => hp)
    | cons c cs =>
      rw [wstrLoop_of_din_cons _ _ _ hd]
      exact ih ((h.setDin cs).wstrChar hp c) (.inl rfl) (fun _ => rfl)

theorem TraceAt.wstrBody (h : TraceAt s .idle) (hh : s.held = none) (len : Half) :
    TraceInv (wstrBody Config.capFrames len s) := by
  rw [Machine.wstrBody]
  split
  · exact (h.setResult 0#16).traceInv_of_idle (midTransaction_of_held_none hh)
  · next hl =>
    have hpos : len.toNat ≠ 0 := fun h0 => hl (BitVec.eq_of_toNat_eq h0)
    exact ((h.emit cleanRun_open).setQf 0#8).wstrLoop (.inr ⟨rfl, rfl⟩) len (fun h0 => absurd h0 hpos)

/-! ### Requests and steps -/

/-- An accepted steady-state request keeps the invariant. -/
theorem TraceAt.accepted (h : TraceAt s .idle) (hh : s.held = none) {i : Instr} (hi : i.steady = true)
    (ht : accepted i s = .next t) : TraceInv t := by
  have hm : s.midTransaction = false := midTransaction_of_held_none hh
  rcases accepted_cases i hi s with ⟨len, rfl⟩ | ⟨slot, src, rfl⟩ | ⟨he, -⟩ | ⟨b, v, he⟩ | ⟨b, v, he⟩ | ⟨-, he⟩
    | ⟨-, he⟩ | ⟨d, he, -⟩ | ⟨e, he, -⟩ | ⟨v, he⟩
  case inl =>
    injection ht with ht
    exact ht ▸ h.wstrBody hh len
  case inr.inl =>
    injection ht with ht
    exact ht ▸ (h.emit (cleanRun_commandEvents _)).glyphLoop (midTransaction_of_held_none (by simpa using hh)) _
  all_goals rw [he] at ht
  · injection ht with ht
    exact ht ▸ (h.traceInv_of_idle hm).raiseFault .rowOob
  · exact h.perform hh (cleanRun_commandEvents b) ht
  · exact h.perform hh (cleanRun_dataEvents b) ht
  · exact h.perform hh (cleanRun_clearEvents s) ht
  · exact h.perform hh (cleanRun_homeEvents s) ht
  · exact (h.setDctrl d).perform hh (cleanRun_commandEvents _) ht
  · exact (h.setEmode e).perform hh (cleanRun_commandEvents _) ht
  · exact h.updateBacklight hh ht

/-- An accepted INIT starts the trace: it is the run of its phases, at the new ADDR and with the new BL. -/
theorem traceInv_initBody (htrace : s.trace = []) (hh : s.held = none) (bl : Bool) (a : BusAddr) (cols rows : Byte)
    (font oled : Bool) : TraceInv (initBody bl a cols rows font oled s) := by
  rw [initBody_eq]
  have hbus := TraceAt.emit_of_trace_nil (s := (s.configure bl a cols rows font oled).initMirrors) htrace
    (cleanRun_initEvents _) (lastWrite_initEvents _)
  exact (((hbus.setSeq _).setFailed _).setResult _).traceInv_of_idle (midTransaction_of_held_none (by simpa using hh))

theorem TraceInv.exec (h : TraceInv s) (hreg : RegInv s) (hh : s.held = none) {i : Instr} (ht : exec i s = .next t) :
    TraceInv t := by
  cases exec_cases i s t ht with
  | refused c ht => exact ht ▸ h.raiseFault c
  | legacy _ _ ht => exact ht ▸ h.setResult 0#16
  | init a cols rows font oled _ h0 ht =>
    obtain ⟨htrace, -⟩ := hreg.unpowered_quiet h0
    exact ht ▸ traceInv_initBody htrace hh _ a cols rows font oled
  | steady hi _ hs ht => exact (h.traceAt_idle hs (midTransaction_of_held_none hh)).accepted hh hi ht

theorem TraceInv.resumeHeld (h : TraceInv s) (hreg : RegInv s) {x : Held} (hx : s.held = some x)
    (ht : resumeHeld x s = .next t) : TraceInv t := by
  have hs : s.seq = seqHomed := hreg.seq_of_held hx
  cases x with
  | writeString len left =>
    injection ht with ht
    obtain ⟨p, hp, hphase⟩ := h.traceAt_mid hs (by simp [State.midTransaction, hx, Held.midTransaction])
    have hsane : 1 ≤ left ∧ left ≤ len.toNat := by simpa [hx, Held.sane] using hreg.held_sane
    exact ht ▸ hp.wstrLoop hphase len (fun h0 => by omega)
  | defineCustomChar left =>
    injection ht with ht
    have hm : s.midTransaction = false := by simp [State.midTransaction, hx, Held.midTransaction]
    exact ht ▸ (h.traceAt_idle hs hm).glyphLoop hm left

/-- Settles O46: each case of the step is one of the rules above. -/
theorem stepKeepsTheTraceInvariant : Obligations.StepKeepsTheTraceInvariant := by
  intro s t hreg h hstep
  cases step_cases s t hstep with
  | held x hx ht => exact h.resumeHeld hreg hx ht
  | idle _ _ ht => exact ht ▸ h
  | illegal w ws r _ _ _ ht => exact ht ▸ (h.setRequests ws).raiseFault .illegalReq
  | run w ws i hh _ _ ht => exact (h.setRequests ws).exec (hreg.setRequests ws) hh ht

end Sys2Proof.Machine
end

section
/-! Reading the fields of an encoded word (30_encoding.md R71 to R77): each format's decoder gives back the operands its
encoder put in, and every request word decodes to its own request. -/

namespace Sys2Proof

/-! ### A single bit of a word written as fields -/

theorem getLsbD_append_above {n m : Nat} (a : BitVec n) (b : BitVec m) (k : Nat) (h : m ≤ k) :
    (a ++ b).getLsbD k = a.getLsbD (k - m) := by
  rw [BitVec.getLsbD_append, if_neg (by omega)]

theorem getLsbD_append_ofBool {n : Nat} (a : BitVec n) (v : Bool) : (a ++ BitVec.ofBool v).getLsbD 0 = v := by
  rw [BitVec.getLsbD_append, if_pos (by omega), ofBool_bit]

section Formats

variable (op : BitVec 5)

/-! ### The OP field of each format -/

@[simp] theorem opField_encodeN : opField (encodeN op) = op := by
  simp (disch := omega) only [opField, encodeN, extract_append_above, extract_all, Nat.reduceSub]

@[simp] theorem opField_encodeB (b : Byte) : opField (encodeB op b) = op := by
  simp (disch := omega) only [opField, encodeB, extract_append_above, extract_all, Nat.reduceSub]

@[simp] theorem opField_encodeI (a : BusAddr) (cols rows : Byte) (font oled : Bool) :
    opField (encodeI op a cols rows font oled) = op := by
  simp (disch := omega) only [opField, encodeI, extract_append_above, extract_all, Nat.reduceSub]

@[simp] theorem opField_encodeP (col row : Byte) : opField (encodeP op col row) = op := by
  simp (disch := omega) only [opField, encodeP, extract_append_above, extract_all, Nat.reduceSub]

@[simp] theorem opField_encodeL (len : Half) : opField (encodeL op len) = op := by
  simp (disch := omega) only [opField, encodeL, extract_append_above, extract_all, Nat.reduceSub]

@[simp] theorem opField_encodeS (slot : Byte) (src : Bool) : opField (encodeS op slot src) = op := by
  simp (disch := omega) only [opField, encodeS, extract_append_above, extract_all, Nat.reduceSub]

@[simp] theorem opField_encodeV (v : Bool) : opField (encodeV op v) = op := by
  simp (disch := omega) only [opField, encodeV, extract_append_above, extract_all, Nat.reduceSub]

/-! ### The operands of each format -/

@[simp] theorem decodeN_encodeN (i : Instr) : decodeN (encodeN op) i = .ok i :=
  if_pos (extract_append_low op 0#27)

@[simp] theorem decodeB_encodeB (b : Byte) (f : Byte → Except Reject Instr) : decodeB (encodeB op b) f = f b := by
  simp (disch := omega) only [decodeB, encodeB, lowByte, extract_append_above, Nat.reduceSub, extract_append_low, if_true]

@[simp] theorem decodeI_encodeI (a : BusAddr) (cols rows : Byte) (font oled : Bool) :
    decodeI (encodeI op a cols rows font oled) = .ok (.init a cols rows font oled) := by
  simp (disch := omega) only [decodeI, encodeI, lowByte, secondByte, extract_append_above, Nat.reduceSub,
    extract_append_low, getLsbD_append_above, getLsbD_append_ofBool, if_true]

@[simp] theorem decodeP_encodeP (col row : Byte) : decodeP (encodeP op col row) = .ok (.setCursor col row) := by
  simp (disch := omega) only [decodeP, encodeP, lowByte, secondByte, extract_append_above, Nat.reduceSub,
    extract_append_low, if_true]

@[simp] theorem decodeL_encodeL (len : Half) : decodeL (encodeL op len) = .ok (.writeString len) := by
  simp (disch := omega) only [decodeL, encodeL, extract_append_above, Nat.reduceSub, extract_append_low, if_true]

@[simp] theorem decodeS_encodeS (slot : Byte) (src : Bool) :
    decodeS (encodeS op slot src) = .ok (.defineCustomChar slot src) := by
  simp (disch := omega) only [decodeS, encodeS, lowByte, extract_append_above, Nat.reduceSub, extract_append_low,
    getLsbD_append_above, getLsbD_append_ofBool, if_true]

@[simp] theorem decodeV_encodeV (v : Bool) : decodeV (encodeV op v) = .ok (.setBacklight v) := by
  simp (disch := omega) only [decodeV, encodeV, extract_append_above, Nat.reduceSub, extract_append_low,
    getLsbD_append_ofBool, if_true]

end Formats

/-! ### The obligation -/

/-- Settles O2: OP selects the decoder of the instruction's own format, and that decoder gives the operands back. -/
theorem decodeEncodeRoundTrip : Obligations.DecodeEncodeRoundTrip := by
  intro i
  cases i <;> simp [decode, encode, legacyOf]

end Sys2Proof
end

section
/-! What the decoder can answer, said once (30_encoding.md R80, R81): an accepted word is legal and is the encoding of the
request it decodes to, and a rejected word is illegal. -/

namespace Sys2Proof

variable {w : ReqWord} {op : BitVec 5}

/-! ### A word put together again from its fields -/

theorem encodeN_of_fields (hop : opField w = op) (hz : w.extractLsb' 0 27 = 0#27) : encodeN op = w := by
  rw [encodeN, ← hop, opField, ← hz, BitVec.extractLsb'_append_extractLsb'_eq_extractLsb' (Nat.zero_add 27).symm]
  exact extract_all w

theorem encodeB_of_fields (hop : opField w = op) (hz : w.extractLsb' 8 19 = 0#19) : encodeB op (lowByte w) = w := by
  simp only [encodeB, ← hop, opField, lowByte, ← hz, BitVec.extractLsb'_append_extractLsb'_eq_extractLsb']
  exact extract_all w

theorem encodeI_of_fields (hop : opField w = op) (hz : w.extractLsb' 25 2 = 0#2) :
    encodeI op (w.extractLsb' 16 7) (lowByte w) (secondByte w) (w.getLsbD 23) (w.getLsbD 24) = w := by
  simp only [encodeI, ← hop, opField, lowByte, secondByte, ofBool_getLsbD, ← hz,
    BitVec.extractLsb'_append_extractLsb'_eq_extractLsb']
  exact extract_all w

theorem encodeP_of_fields (hop : opField w = op) (hz : w.extractLsb' 16 11 = 0#11) : encodeP op (lowByte w) (secondByte w) = w := by
  simp only [encodeP, ← hop, opField, lowByte, secondByte, ← hz, BitVec.extractLsb'_append_extractLsb'_eq_extractLsb']
  exact extract_all w

theorem encodeL_of_fields (hop : opField w = op) (hz : w.extractLsb' 16 11 = 0#11) : encodeL op (w.extractLsb' 0 16) = w := by
  simp only [encodeL, ← hop, opField, ← hz, BitVec.extractLsb'_append_extractLsb'_eq_extractLsb']
  exact extract_all w

theorem encodeS_of_fields (hop : opField w = op) (hz : w.extractLsb' 9 18 = 0#18) : encodeS op (lowByte w) (w.getLsbD 8) = w := by
  simp only [encodeS, ← hop, opField, lowByte, ofBool_getLsbD, ← hz, BitVec.extractLsb'_append_extractLsb'_eq_extractLsb']
  exact extract_all w

theorem encodeV_of_fields (hop : opField w = op) (hz : w.extractLsb' 1 26 = 0#26) : encodeV op (w.getLsbD 0) = w := by
  simp only [encodeV, ← hop, opField, ofBool_getLsbD, ← hz, BitVec.extractLsb'_append_extractLsb'_eq_extractLsb']
  exact extract_all w

/-! ### Legality by fields -/

/-- How many low bits of `REQ[26:0]` the operands of a format take; the others must be 0 (R71 to R77). -/
def Format.operandBits : Format → Nat
  | .n => 0
  | .b => 8
  | .i => 25
  | .p => 16
  | .l => 16
  | .s => 9
  | .v => 1

theorem and_mustBeZero_eq_zero_iff (f : Format) (w : ReqWord) :
    w &&& f.mustBeZero = 0#32 ↔ w.extractLsb' f.operandBits (27 - f.operandBits) = 0#_ := by
  have hf : f.mustBeZero = (BitVec.allOnes (27 - f.operandBits)).setWidth 32 <<< f.operandBits := by cases f <;> rfl
  rw [hf]
  exact and_mask_eq_zero_iff w _ _ (by cases f <;> decide)

theorem legacyId_toNat (w : ReqWord) : (w &&& 0xFF#32).toNat = (lowByte w).toNat := by
  rw [BitVec.toNat_and, lowByte, BitVec.extractLsb'_toNat, Nat.shiftRight_zero]
  exact Nat.and_two_pow_sub_one_eq_mod w.toNat 8

theorem shift_bne_26 (w : ReqWord) : (w >>> 27 != 26#32) = (opField w != 26#5) := by
  rw [Bool.eq_iff_iff, bne_iff_ne, bne_iff_ne, ← BitVec.toNat_ne_iff_ne, ← BitVec.toNat_ne_iff_ne, shift_toNat_eq_opField]
  rfl

theorem legalWord_of_formatOf_none (hf : formatOf (opField w).toNat = none) : legalWord w = false := by
  rw [legalWord, shift_toNat_eq_opField, hf]

theorem legalWord_iff_of_format {f : Format} (hf : formatOf (opField w).toNat = some f) :
    legalWord w = true ↔ w.extractLsb' f.operandBits (27 - f.operandBits) = 0#_
      ∧ (opField w = 26#5 → (lowByte w).toNat ≤ 4) := by
  rw [legalWord, shift_toNat_eq_opField, hf, shift_bne_26, legacyId_toNat, Bool.and_eq_true, beq_iff_eq,
    and_mustBeZero_eq_zero_iff]
  simp [imp_iff_not_or]

/-! ### The answers of the decoder -/

/-- What the decoder can answer to a word. -/
inductive DecodeCase (w : ReqWord) : Except Reject Instr → Prop
  /-- The word is legal, and the encoding of the answer. -/
  | accepted (i : Instr) (hl : legalWord w = true) (hw : encode i = w) : DecodeCase w (.ok i)
  /-- The word is illegal. -/
  | rejected (r : Reject) (hl : legalWord w = false) : DecodeCase w (.error r)

/-- A format without a check beyond its must-be-zero bits. -/
theorem decodeCase_of_format {f : Format} {i : Instr} (hop : opField w = op)
    (hf : formatOf op.toNat = some f) (h26 : op ≠ 26#5)
    (hw : w.extractLsb' f.operandBits (27 - f.operandBits) = 0#_ → encode i = w) :
    DecodeCase w (if w.extractLsb' f.operandBits (27 - f.operandBits) = 0#_ then .ok i else .error .mustBeZero) := by
  have hl := legalWord_iff_of_format (w := w) (hop ▸ hf)
  split
  · next hz => exact .accepted i (hl.2 ⟨hz, fun h => absurd (hop ▸ h) h26⟩) (hw hz)
  · next hz => exact .rejected _ (Bool.eq_false_iff.2 fun h => hz (hl.1 h).1)

/-- A format-N request is the word of its OP alone. -/
theorem decodeCase_decodeN {i : Instr} (hop : opField w = op) (hf : formatOf op.toNat = some .n)
    (hi : encode i = encodeN op) : DecodeCase w (decodeN w i) :=
  decodeCase_of_format (f := .n) hop hf (by rintro rfl; cases hf)
    fun hz => hi.trans (encodeN_of_fields hop hz)

theorem encode_of_legacyOf {b : Byte} {i : Instr} (h : legacyOf b = .ok i) :
    encode i = encodeB 26#5 b ∧ b.toNat ≤ 4 := by
  unfold legacyOf at h
  split at h <;> cases h <;> next hb => exact ⟨congrArg (encodeB 26#5) (BitVec.eq_of_toNat_eq hb).symm, by omega⟩

theorem lt_toNat_of_legacyOf {b : Byte} {r : Reject} (h : legacyOf b = .error r) : 4 < b.toNat := by
  unfold legacyOf at h
  split at h <;> cases h
  grind

theorem decodeCase_decodeB_legacyOf (hop : opField w = 26#5) : DecodeCase w (decodeB w legacyOf) := by
  have hl := legalWord_iff_of_format (w := w) (f := .b) (by rw [hop]; rfl)
  unfold decodeB
  split
  · next hz =>
    cases h : legacyOf (lowByte w) with
    | ok i =>
      obtain ⟨hi, hle⟩ := encode_of_legacyOf h
      exact .accepted i (hl.2 ⟨hz, fun _ => hle⟩) (hi.trans (encodeB_of_fields hop hz))
    | error r =>
      have hlt := lt_toNat_of_legacyOf h
      exact .rejected r (Bool.eq_false_iff.2 fun hl' => absurd ((hl.1 hl').2 hop) (by omega))
  · next hz => exact .rejected _ (Bool.eq_false_iff.2 fun h => hz (hl.1 h).1)

theorem formatOf_eq_none {n : Nat} (h : n = 0 ∨ 26 < n) : formatOf n = none := by
  unfold formatOf
  repeat rw [if_neg (by omega)]

theorem opField_eq {n : Nat} (h : (opField w).toNat = n) : opField w = BitVec.ofNat 5 n := by
  rw [← h, BitVec.ofNat_toNat, BitVec.setWidth_eq]

theorem decode_cases (w : ReqWord) : DecodeCase w (decode w) := by
  unfold decode
  split
  case h_1 h => exact decodeCase_of_format (f := .i) (opField_eq h) rfl (by decide) (encodeI_of_fields (opField_eq h))
  case h_2 h => exact decodeCase_of_format (f := .b) (opField_eq h) rfl (by decide) (encodeB_of_fields (opField_eq h))
  case h_3 h => exact decodeCase_of_format (f := .b) (opField_eq h) rfl (by decide) (encodeB_of_fields (opField_eq h))
  case h_4 h => exact decodeCase_of_format (f := .l) (opField_eq h) rfl (by decide) (encodeL_of_fields (opField_eq h))
  case h_7 h => exact decodeCase_of_format (f := .p) (opField_eq h) rfl (by decide) (encodeP_of_fields (opField_eq h))
  case h_22 h => exact decodeCase_of_format (f := .s) (opField_eq h) rfl (by decide) (encodeS_of_fields (opField_eq h))
  case h_25 h => exact decodeCase_of_format (f := .v) (opField_eq h) rfl (by decide) (encodeV_of_fields (opField_eq h))
  case h_26 h => exact decodeCase_decodeB_legacyOf (opField_eq h)
  case h_27 => exact .rejected _ (legalWord_of_formatOf_none (formatOf_eq_none (by grind)))
  all_goals next h => exact decodeCase_decodeN (opField_eq h) rfl rfl

theorem encode_of_decode {i : Instr} (h : decode w = .ok i) : encode i = w := by
  cases h ▸ decode_cases w with
  | accepted _ _ hw => exact hw

theorem legalWord_of_decode {i : Instr} (h : decode w = .ok i) : legalWord w = true := by
  cases h ▸ decode_cases w with
  | accepted _ hl _ => exact hl

theorem legalWord_eq_false_of_decode {r : Reject} (h : decode w = .error r) : legalWord w = false := by
  cases h ▸ decode_cases w with
  | rejected _ hl => exact hl

/-! ### The obligations -/

/-- Settles O3: of a word the decoder accepts, `decode_cases` says that it is the encoding of the answer. -/
theorem acceptedWordIsItsEncoding : Obligations.AcceptedWordIsItsEncoding :=
  fun _ _ h => encode_of_decode h

/-- Settles O4: accepted and rejected are the two cases of `decode_cases`, and each says which way legality goes. -/
theorem decoderAcceptsExactlyLegalWords : Obligations.DecoderAcceptsExactlyLegalWords := by
  intro w
  constructor
  · intro hl
    cases h : decode w with
    | ok i => exact ⟨i, rfl⟩
    | error r => rw [legalWord_eq_false_of_decode h] at hl; cases hl
  · rintro ⟨i, h⟩
    exact legalWord_of_decode h

end Sys2Proof
end

section
/-! The opcode map (30_encoding.md R79): a row's mask reads every bit that the row's format checks, so the words of a row are
legal; no word belongs to two rows; and every encoding belongs to the row of its instruction. -/

namespace Sys2Proof

variable {w : ReqWord} {op : BitVec 5} {r : OpcodeRow}

theorem OpcodeRow.holds_iff : r.holds w = true ↔ w &&& r.mask = r.pattern := beq_iff_eq

/-! ### OP as a mask -/

/-- The mask of OP, `REQ[31:27]` (R70). -/
def opMask : ReqWord := 0xF8000000#32

theorem and_opMask (w : ReqWord) : w &&& opMask = encodeN (opField w) := by
  have hmask : opMask = BitVec.allOnes 5 ++ 0#27 := rfl
  have hw : opField w ++ w.extractLsb' 0 27 = w := append_extract (n := 5) (m := 27) w
  calc w &&& opMask = (opField w ++ w.extractLsb' 0 27) &&& (BitVec.allOnes 5 ++ 0#27) := by rw [hw, hmask]
    _ = encodeN (opField w) := by rw [BitVec.and_append, BitVec.and_allOnes, BitVec.and_zero, encodeN]

theorem opField_and_opMask (w : ReqWord) : opField (w &&& opMask) = opField w := by
  rw [and_opMask, opField_encodeN]

/-! ### The words of a row are legal -/

/-- The mask has every bit of `m`. -/
def OpcodeRow.reads (r : OpcodeRow) (m : ReqWord) : Bool := r.mask &&& m == m

/-- A word of a row and the row's pattern are the same under every mask that the row reads. -/
theorem OpcodeRow.and_eq_of_holds {m : ReqWord} (h : r.holds w = true) (hm : r.reads m = true) :
    w &&& m = r.pattern &&& m := by
  rw [← holds_iff.1 h, BitVec.and_assoc, beq_iff_eq.1 hm]

/-- The row reads OP, the must-be-zero bits of its format, and B if it is a LEGACY row: all that R80 asks of a word. -/
def OpcodeRow.readsChecks (r : OpcodeRow) : Bool :=
  r.reads opMask && (formatOf (opField r.pattern).toNat).all (fun f => r.reads f.mustBeZero)
    && (opField r.pattern != 26#5 || r.reads 0xFF#32)

theorem readsChecks_of_mem : ∀ r ∈ opcodeMap, r.readsChecks = true := by decide

theorem pattern_legal_of_mem : ∀ r ∈ opcodeMap, legalWord r.pattern = true := by decide

theorem legalWord_of_holds (hr : r ∈ opcodeMap) (h : r.holds w = true) : legalWord w = true := by
  have hp := pattern_legal_of_mem r hr
  have hc := readsChecks_of_mem r hr
  simp only [OpcodeRow.readsChecks, Bool.and_eq_true, Bool.or_eq_true, bne_iff_ne, ← imp_iff_not_or] at hc
  obtain ⟨⟨hop, hzero⟩, hid⟩ := hc
  have hop : opField w = opField r.pattern := by
    rw [← opField_and_opMask w, OpcodeRow.and_eq_of_holds h hop, opField_and_opMask]
  cases hf : formatOf (opField r.pattern).toNat with
  | none => rw [legalWord_of_formatOf_none hf] at hp; cases hp
  | some f =>
    rw [hf, Option.all_some] at hzero
    rw [legalWord_iff_of_format hf, ← and_mustBeZero_eq_zero_iff, ← legacyId_toNat] at hp
    obtain ⟨hpzero, hpid⟩ := hp
    rw [legalWord_iff_of_format (hop ▸ hf), ← and_mustBeZero_eq_zero_iff, ← legacyId_toNat, hop,
      OpcodeRow.and_eq_of_holds h hzero]
    exact ⟨hpzero, fun h26 => OpcodeRow.and_eq_of_holds h (hid h26) ▸ hpid h26⟩

/-! ### No word belongs to two rows -/

theorem opcodeMap_nodup : opcodeMap.Nodup := by decide

theorem opcodeMap_disjoint :
    ∀ r ∈ opcodeMap, ∀ r' ∈ opcodeMap, r.pattern &&& r'.mask = r'.pattern &&& r.mask → r = r' := by decide

theorem row_eq_of_holds {r' : OpcodeRow} (hr : r ∈ opcodeMap) (hr' : r' ∈ opcodeMap) (h : r.holds w = true)
    (h' : r'.holds w = true) : r = r' := by
  refine opcodeMap_disjoint r hr r' hr' ?_
  rw [← OpcodeRow.holds_iff.1 h, ← OpcodeRow.holds_iff.1 h', BitVec.and_assoc, BitVec.and_assoc, BitVec.and_comm r.mask]

/-! ### The row of an instruction -/

theorem row_mem_opcodeMap (i : Instr) : i.row ∈ opcodeMap := by
  cases i <;> simp [opcodeMap, oneOfEachRow, Instr.row]

/-- A legal word belongs to the row that reads OP and the must-be-zero bits of its format. -/
theorem holds_of_legalWord {f : Format} (hop : opField w = op) (hf : formatOf op.toNat = some f)
    (hm : r.mask = opMask ||| f.mustBeZero) (hp : r.pattern = encodeN op) (hl : legalWord w = true) : r.holds w = true := by
  have hz : w &&& f.mustBeZero = 0#32 :=
    (and_mustBeZero_eq_zero_iff f w).2 ((legalWord_iff_of_format (hop ▸ hf)).1 hl).1
  rw [OpcodeRow.holds_iff, hm, hp, BitVec.and_or_distrib_left, and_opMask, hz, hop, BitVec.or_zero]

theorem row_holds_encode (i : Instr) : i.row.holds (encode i) = true := by
  have hl : legalWord (encode i) = true := legalWord_of_decode (decodeEncodeRoundTrip i)
  cases i
  case init => exact holds_of_legalWord (f := .i) (opField_encodeI ..) rfl rfl rfl hl
  case command => exact holds_of_legalWord (f := .b) (opField_encodeB ..) rfl rfl rfl hl
  case writeChar => exact holds_of_legalWord (f := .b) (opField_encodeB ..) rfl rfl rfl hl
  case writeString => exact holds_of_legalWord (f := .l) (opField_encodeL ..) rfl rfl rfl hl
  case setCursor => exact holds_of_legalWord (f := .p) (opField_encodeP ..) rfl rfl rfl hl
  case defineCustomChar => exact holds_of_legalWord (f := .s) (opField_encodeS ..) rfl rfl rfl hl
  case setBacklight => exact holds_of_legalWord (f := .v) (opField_encodeV ..) rfl rfl rfl hl
  all_goals rfl

/-! ### The obligation -/

/-- Settles O5: the row of the decoded request holds and excludes every other, and a row that holds makes the word legal. -/
theorem everyWordMatchesAtMostItsRow : Obligations.EveryWordMatchesAtMostItsRow := by
  intro w
  cases h : decode w with
  | ok i =>
    have hi : i.row.holds w = true := encode_of_decode h ▸ row_holds_encode i
    have hrow : ∀ r ∈ opcodeMap, r.holds w = (r == i.row) := by
      intro r hr
      rw [Bool.eq_iff_iff, beq_iff_eq]
      exact ⟨fun hw => row_eq_of_holds hr (row_mem_opcodeMap i) hw hi, fun he => he ▸ hi⟩
    rw [List.filter_congr hrow, List.filter_beq, List.count_eq_one_of_mem opcodeMap_nodup (row_mem_opcodeMap i)]
    rfl
  | error r =>
    have hl : legalWord w = false := legalWord_eq_false_of_decode h
    refine List.filter_eq_nil_iff.2 fun r hr hw => ?_
    rw [legalWord_of_holds hr hw] at hl
    cases hl

end Sys2Proof
end

section
/-! Request lines and pseudo-requests (30_encoding.md R93, R94): a request word as a number, and what each line assembles
to. -/

namespace Sys2Proof

/-! ### A request word as a number -/

theorem toNat_append_eq_add {n m : Nat} (a : BitVec n) (b : BitVec m) : (a ++ b).toNat = a.toNat * 2 ^ m + b.toNat := by
  rw [BitVec.toNat_append, ← Nat.shiftLeft_add_eq_or_of_lt b.isLt, Nat.shiftLeft_eq]

section Words

variable (op : BitVec 5)

theorem toNat_encodeB (b : Byte) : (encodeB op b).toNat = op.toNat * 2 ^ 27 + b.toNat := by
  simp only [encodeB, toNat_append_eq_add, BitVec.toNat_ofNat]
  omega

theorem toNat_encodeI (a : BusAddr) (cols rows : Byte) (font oled : Bool) :
    (encodeI op a cols rows font oled).toNat =
      op.toNat * 2 ^ 27 + oled.toNat * 2 ^ 24 + font.toNat * 2 ^ 23 + a.toNat * 2 ^ 16 + rows.toNat * 2 ^ 8 + cols.toNat := by
  simp only [encodeI, toNat_append_eq_add, BitVec.toNat_ofNat, BitVec.toNat_ofBool]
  omega

theorem toNat_encodeP (col row : Byte) :
    (encodeP op col row).toNat = op.toNat * 2 ^ 27 + row.toNat * 2 ^ 8 + col.toNat := by
  simp only [encodeP, toNat_append_eq_add, BitVec.toNat_ofNat]
  omega

theorem toNat_encodeL (len : Half) : (encodeL op len).toNat = op.toNat * 2 ^ 27 + len.toNat := by
  simp only [encodeL, toNat_append_eq_add, BitVec.toNat_ofNat]
  omega

theorem toNat_encodeS (slot : Byte) (src : Bool) :
    (encodeS op slot src).toNat = op.toNat * 2 ^ 27 + src.toNat * 2 ^ 8 + slot.toNat := by
  simp only [encodeS, toNat_append_eq_add, BitVec.toNat_ofNat, BitVec.toNat_ofBool]
  omega

theorem toNat_encodeV (v : Bool) : (encodeV op v).toNat = op.toNat * 2 ^ 27 + v.toNat := by
  simp only [encodeV, toNat_append_eq_add, BitVec.toNat_ofNat, BitVec.toNat_ofBool]
  omega

end Words

/-! ### Operands as numbers -/

theorem toNat_operandByte {n : Nat} (h : n < 256) : (operandByte n).toNat = n := Nat.mod_eq_of_lt h

theorem toNat_bne_zero_of_lt_two {n : Nat} (h : n < 2) : (n != 0).toNat = n := by
  interval_cases n <;> rfl

theorem toNat_bne_zero_mul (n k : Nat) : (n != 0).toNat * k = if n = 0 then 0 else k := by
  by_cases h : n = 0
  · rw [h, if_pos rfl]
    exact Nat.zero_mul k
  · rw [if_neg h, bne_iff_ne.2 h]
    exact Nat.one_mul k

/-! ### Lines that stand for a word of the opcode table -/

/-- A legal word of the table is read as the request it encodes. -/
theorem decodeTableWord_of_legal {n : Nat} (hn : n < 2 ^ 32) (hl : legalWord (BitVec.ofNat 32 n) = true) :
    ∃ i, decodeTableWord 32 n = some i ∧ (encode i).toNat = n := by
  obtain ⟨i, hi⟩ := (decoderAcceptsExactlyLegalWords _).1 hl
  refine ⟨i, ?_, ?_⟩
  · rw [decodeTableWord, Nat.mod_eq_of_lt hn, hi]
  · rw [encode_of_decode hi, BitVec.toNat_ofNat, Nat.mod_eq_of_lt hn]

theorem legalWord_legacy : ∀ id ≤ 4, legalWord (BitVec.ofNat 32 (26 * 2 ^ 27 + id)) = true := by decide

theorem lt_of_formatOf_n {op : Nat} (h : formatOf op = some .n) : op < 25 := by
  unfold formatOf at h
  split_ifs at h <;> cases h
  omega

theorem legalWord_plain : ∀ op < 25, formatOf op = some .n → legalWord (BitVec.ofNat 32 (op * 2 ^ 27)) = true := by decide

/-- `legacy.status` to `legacy.delay`. -/
theorem assemble_legacy {id : Nat} (h : id ≤ 4) :
    ∃ i, assemble (.legacy id) = some (i, []) ∧ (encode i).toNat = 26 * 2 ^ 27 + id := by
  obtain ⟨i, hi, hn⟩ := decodeTableWord_of_legal (n := 26 * 2 ^ 27 + id) (by omega) (legalWord_legacy id h)
  refine ⟨i, ?_, hn⟩
  simp only [assemble, SourceRequest.wf, decide_eq_true h, if_true, hi, Option.map_some]

/-- The mnemonics without an operand. -/
theorem assemble_plain {op : Nat} (h : formatOf op = some .n) :
    ∃ i, assemble (.plain op) = some (i, []) ∧ (encode i).toNat = op * 2 ^ 27 := by
  have hop := lt_of_formatOf_n h
  obtain ⟨i, hi, hn⟩ := decodeTableWord_of_legal (n := op * 2 ^ 27) (by omega) (legalWord_plain op hop h)
  refine ⟨i, ?_, hn⟩
  simp only [assemble, SourceRequest.wf, h, beq_self_eq_true, if_true, hi, Option.map_some]

/-! ### Which lines assemble -/

theorem assemble_of_not_wf {r : SourceRequest} (h : r.wf = false) : assemble r = none := by
  simp [assemble, h]

theorem assemble_isSome_of_wf {r : SourceRequest} (h : r.wf = true) : (assemble r).isSome = true := by
  cases r with
  | legacy id =>
    obtain ⟨i, hi, -⟩ := assemble_legacy (of_decide_eq_true h)
    rw [hi, Option.isSome_some]
  | plain op =>
    obtain ⟨i, hi, -⟩ := assemble_plain (beq_iff_eq.1 h)
    rw [hi, Option.isSome_some]
  | _ => simp [assemble, h]

theorem word_of_assemble {r : SourceRequest} {i : Instr} {bs : List Byte} {n : Nat} (h : assemble r = some (i, bs))
    (hn : (encode i).toNat = n) : (assemble r).map (fun p => (encode p.1).toNat) = some n := by
  rw [h, Option.map_some, hn]

/-! ### The obligations -/

/-- Settles O6: each line assembles to the request with its operands, whose word is the sum of its fields. -/
theorem requestLinesEncodeTheirOperands : Obligations.RequestLinesEncodeTheirOperands := by
  refine ⟨?_, ?_, ?_, ?_, ?_, ?_, ?_, ?_, ?_⟩
  · intro r
    cases h : r.wf with
    | true => exact (assemble_isSome_of_wf h).symm
    | false => rw [assemble_of_not_wf h, Option.isSome_none]
  · intro a cols rows font oled ha hcols hrows holed
    refine word_of_assemble (if_pos (by simp [SourceRequest.wf, ha, hcols, hrows, holed])) ?_
    have ha : (BitVec.ofNat 7 a).toNat = a := Nat.mod_eq_of_lt ha
    rw [encode, toNat_encodeI, ha, toNat_operandByte hcols, toNat_operandByte hrows, Option.getD_some,
      toNat_bne_zero_of_lt_two holed, toNat_bne_zero_mul]
    rfl
  · intro b hb
    constructor
    · refine word_of_assemble (if_pos (decide_eq_true hb)) ?_
      rw [encode, toNat_encodeB, toNat_operandByte hb]
      rfl
    · refine word_of_assemble (if_pos (decide_eq_true hb)) ?_
      rw [encode, toNat_encodeB, toNat_operandByte hb]
      rfl
  · intro len hlen
    refine word_of_assemble (if_pos (decide_eq_true hlen)) ?_
    have hlen : (BitVec.ofNat 16 len).toNat = len := Nat.mod_eq_of_lt hlen
    rw [encode, toNat_encodeL, hlen]
    rfl
  · intro col hcol row hrow
    refine word_of_assemble (if_pos (by simp [SourceRequest.wf, hcol, hrow])) ?_
    rw [encode, toNat_encodeP, toNat_operandByte hcol, toNat_operandByte hrow]
    rfl
  · intro slot hslot pgm hpgm
    refine word_of_assemble (if_pos (by simp [SourceRequest.wf, hslot, hpgm])) ?_
    rw [encode, toNat_encodeS, toNat_operandByte hslot, Option.getD_some, toNat_bne_zero_of_lt_two hpgm]
    rfl
  · intro v
    refine word_of_assemble (if_pos rfl) ?_
    rw [encode, toNat_encodeV, ← toNat_bne_zero_mul v 1, Nat.mul_one]
    rfl
  · intro id hid
    obtain ⟨i, hi, hn⟩ := assemble_legacy hid
    exact word_of_assemble hi hn
  · intro op hop
    obtain ⟨i, hi, hn⟩ := assemble_plain hop
    exact word_of_assemble hi hn

theorem takeWhile_append_zero {text : List Byte} (h : 0#8 ∉ text) (rest : List Byte) :
    (text ++ 0#8 :: rest).takeWhile (· != 0#8) = text := by
  rw [List.takeWhile_append_of_pos (fun b hb => bne_iff_ne.2 (ne_of_mem_of_not_mem hb h)),
    List.takeWhile_cons_of_neg (by decide), List.append_nil]

/-- Settles O7: each line's check and expansion are those of the request it stands for. -/
theorem pseudoRequestsExpand : Obligations.PseudoRequestsExpand := by
  refine ⟨?_, ?_, rfl, rfl, rfl, rfl, ?_, ?_, ?_, ?_⟩
  · intro text hlen
    exact if_pos (decide_eq_true hlen)
  · intro text rest hlen h0
    simp [assemble, SourceRequest.wf, takeWhile_append_zero h0, hlen]
  · intro slot
    simp [assemble, SourceRequest.wf]
  · intro slot
    simp [assemble, SourceRequest.wf]
  · intro slot
    simp [assemble, SourceRequest.wf]
  · intro a cols rows font
    simp [assemble, SourceRequest.wf]

end Sys2Proof
end

section
/-! The words of the test vectors (95_test_vectors.md L2), and the step on an illegal word (60_exceptions.md R201). -/

namespace Sys2Proof.Machine

/-- Settles O1: each word is a closed one, and the decoder computes its answer. -/
theorem specWordsDecode : Obligations.SpecWordsDecode :=
  ⟨rfl, rfl, rfl, rfl, rfl, rfl, rfl, rfl, rfl, rfl, rfl, rfl, rfl, rfl, rfl, rfl⟩

theorem exists_reject_of_illegal {w : ReqWord} (hl : legalWord w = false) : ∃ r, decode w = .error r := by
  cases hd : decode w with
  | ok i => rw [legalWord_of_decode hd] at hl; cases hl
  | error r => exact ⟨r, rfl⟩

/-- Settles O9: the decoder rejects the word, so the step is the refusal with ILLEGAL_REQ of the state without the word. -/
theorem illegalWordSetsOnlyItsFsetBit : Obligations.IllegalWordSetsOnlyItsFsetBit := by
  intro s w ws hh hr hl
  obtain ⟨r, hd⟩ := exists_reject_of_illegal hl
  have ht : s.takeRequest = some (w, s.setRequests ws) := State.takeRequest_of_requests_cons hr
  exact step_of_takeRequest_illegal hh ht hd

end Sys2Proof.Machine
end

section
/-! The frame encoder under every legal wiring (40_frame_encoder.md R100 to R107): what each mask of a wiring reads off a
frame, and off the high half of a pulse. -/

namespace Sys2Proof.Machine

/-! ### A frame under each mask -/

theorem buildFrame_nibble {w : Wiring} (hw : w.wf = true) (n : Byte) (rs bl : Bool) :
    buildFrame w n rs bl &&& 0xF0#8 = n &&& 0xF0#8 := by
  obtain ⟨hrs, -, hblb, -⟩ := wiring_bits_disjoint w hw
  rw [buildFrame_and, BitVec.and_comm w.rs, BitVec.and_comm w.blb, hrs, hblb]
  simp

theorem buildFrame_and_rs {w : Wiring} (hw : w.wf = true) (n : Byte) (rs bl : Bool) :
    buildFrame w n rs bl &&& w.rs = if rs then w.rs else 0#8 := by
  obtain ⟨hn, -, -, -, -, -, hblb, -⟩ := wiring_bits_disjoint w hw
  rw [buildFrame_and, hn, hblb]
  simp

theorem buildFrame_and_blb {w : Wiring} (hw : w.wf = true) (n : Byte) (rs bl : Bool) :
    buildFrame w n rs bl &&& w.blb = if bl then w.blb else 0#8 := by
  obtain ⟨-, -, hn, -, -, hrs, -⟩ := wiring_bits_disjoint w hw
  rw [buildFrame_and, hn, hrs]
  simp

/-- `buildFrame_spare` is this at the wiring the requests use. -/
theorem buildFrame_and_spare {w : Wiring} (hw : w.wf = true) (n : Byte) (rs bl : Bool) :
    buildFrame w n rs bl &&& w.spare = 0#8 := by
  obtain ⟨-, -, -, -, -, -, -, hn, hrs, hblb, -⟩ := wiring_bits_disjoint w hw
  rw [buildFrame_and, hn, hrs, hblb]
  simp

/-- Settles O14: the parts of a frame lie under disjoint masks, so each mask reads back its own part. -/
theorem frameBitsUnderEveryWiring : Obligations.FrameBitsUnderEveryWiring := fun w n rs bl hw =>
  ⟨buildFrame_nibble hw n rs bl, buildFrame_and_rs hw n rs bl, buildFrame_and_blb hw n rs bl, buildFrame_en w hw n rs bl,
    buildFrame_and_spare hw n rs bl⟩

/-! ### The high half of a pulse -/

/-- Raising the enable bit does not show under a mask that leaves it out. -/
theorem or_and_of_and_eq_zero {e m : Byte} (h : e &&& m = 0#8) (f : Byte) : (f ||| e) &&& m = f &&& m := by
  rw [BitVec.and_or_distrib_right, h, BitVec.or_zero]

theorem pulseHigh_nibble {w : Wiring} (hw : w.wf = true) (n : Byte) (rs bl : Bool) :
    (buildFrame w n rs bl ||| w.en) &&& 0xF0#8 = n &&& 0xF0#8 := by
  obtain ⟨-, hen, -⟩ := wiring_bits_disjoint w hw
  rw [or_and_of_and_eq_zero (BitVec.and_comm w.en _ ▸ hen), buildFrame_nibble hw]

theorem pulseHigh_rs {w : Wiring} (hw : w.wf = true) (n : Byte) (rs bl : Bool) :
    ((buildFrame w n rs bl ||| w.en) &&& w.rs != 0#8) = rs := by
  obtain ⟨-, -, -, hen, -, -, -, -, -, -, hrs, -⟩ := wiring_bits_disjoint w hw
  rw [or_and_of_and_eq_zero (BitVec.and_comm w.en _ ▸ hen), buildFrame_and_rs hw]
  cases rs <;> simp [hrs]

/-- A shift right by 4 sees bits 7:4 only. -/
theorem ushiftRight_four_eq_nibble (x : Byte) : x >>> 4 = (x &&& 0xF0#8) >>> 4 := by
  revert x
  decide

/-- A byte is its upper nibble and the upper nibble of its shift left by 4 (40_frame_encoder.md R103). -/
theorem byte_eq_nibbles (b : Byte) : b = (b &&& 0xF0#8) ||| ((b <<< 4 &&& 0xF0#8) >>> 4) := by
  revert b
  decide

/-- The byte is read back from the high writes of its two pulses (40_frame_encoder.md R107). -/
theorem byte_eq_pulseHighs {w : Wiring} (hw : w.wf = true) (b : Byte) (rs bl : Bool) :
    b = ((buildFrame w b rs bl ||| w.en) &&& 0xF0#8) ||| ((buildFrame w (b <<< 4) rs bl ||| w.en) >>> 4) := by
  rw [ushiftRight_four_eq_nibble, pulseHigh_nibble hw, pulseHigh_nibble hw]
  exact byte_eq_nibbles b

theorem bytesSent_sendByte {w : Wiring} (hw : w.wf = true) (bl : Bool) (b : Byte) (rs : Bool) :
    bytesSent w (sendByte w bl b rs) = [(b, rs)] := by
  have hsent := bytesSent_sendByte_append w hw bl b rs []
  rwa [List.append_nil] at hsent

/-- Settles O15: the low write of each pulse is the frame itself, and the high write is the frame with the enable bit set,
which neither the nibble nor the register-select bit shows. -/
theorem sentByteReadsBackUnderEveryWiring : Obligations.SentByteReadsBackUnderEveryWiring := fun w bl b rs hw =>
  ⟨_, _, _, _, sendByte_eq w hw bl b rs, rfl, rfl, enHigh_buildFrame w hw b rs bl, enHigh_buildFrame w hw (b <<< 4) rs bl,
    byte_eq_pulseHighs hw b rs bl, (pulseHigh_rs hw b rs bl).symm, (pulseHigh_rs hw (b <<< 4) rs bl).symm,
    bytesSent_sendByte hw bl b rs⟩

end Sys2Proof.Machine
end

section
/-! The requests' events and bus effects in the terms of the obligations (30_encoding.md R83, 40_frame_encoder.md R104, R108;
60_exceptions.md R210): the transactions, what emitting closed transactions leaves, and the refusals. -/

namespace Sys2Proof.Machine

open Sys2Proof.Claims

/-! ### Transactions -/

/-- The shift that selects the lower nibble leaves nothing below bit 4. -/
theorem shiftLeft_four_nibble (b : Byte) : (b <<< 4) &&& 0xF0#8 = b <<< 4 := by
  revert b
  decide

theorem sendByte_eq_fourWrites (bl : Bool) (b : Byte) (rs : Bool) :
    sendByte Config.wiring bl b rs = fourWrites bl rs b := by
  rw [sendByte_eq Config.wiring wiring_wf]
  simp only [fourWrites, buildFrame, shiftLeft_four_nibble, BitVec.or_assoc]

theorem commandEvents_eq_commandTx (s : State) (b : Byte) : commandEvents s.addr s.bl b = commandTx s b := by
  rw [commandEvents, sendByte_eq_fourWrites]
  rfl

theorem nibbleEvents_eq_nibbleTx (a : BusAddr) (bl : Bool) {n : Byte} (hn : n &&& 0xF0#8 = n) :
    nibbleEvents a bl n = nibbleTx a bl n := by
  rw [nibbleEvents, nibbleOut, pulseEnable, buildFrame_low Config.wiring wiring_wf]
  simp [transaction, nibbleTx, buildFrame, hn]

/-! ### Emitting closed transactions, and refusing -/

theorem State.emit_eq_afterBus (s : State) {es : List Event} {n : Nat} (hn : closeCount es = n)
    (htx : txAfter s.txopen es = false) : s.emit es = afterBus s n es := by
  rw [State.emit_eq, htx, hn]
  rfl

theorem refuse_eq_refusedWith (c : Fault) (s : State) : refuse c s = .next (refusedWith c.fsetBit s) := rfl

theorem exec_steady_of_failed {i : Instr} (hi : i.steady = true) {s : State} (hf : s.failed = true) :
    exec i s = .next (refusedWith 0x10#5 s) := by
  rw [exec_steady i hi, guardSteady_failed s _ hf]
  exact refuse_eq_refusedWith .handleFailed s

theorem exec_init_of_powered {s : State} (hs : s.seq ≠ 0#4) (a : BusAddr) (cols rows : Byte) (font oled : Bool) :
    exec (.init a cols rows font oled) s = .next (refusedWith 0x04#5 s) := by
  have hexec : exec (.init a cols rows font oled) s = refuse .reinit s := if_pos hs
  exact hexec.trans (refuse_eq_refusedWith .reinit s)

/-! ### Counting transactions -/

/-- The counts of 41_sequencer.md R131: the events are `txs` transactions, each finalised, with `writes` bus writes among
them, and the waits `ws` in order. -/
structure CountsTo (es : List Event) (txs writes : Nat) (ws : List Nat) : Prop where
  opens : opens es = txs
  finalised : closesWith true es = txs
  flushed : closesWith false es = 0
  closes : closeCount es = txs
  writes : (busWrites es).length = writes
  waits : waits es = ws

theorem CountsTo.append {es fs : List Event} {m n j k : Nat} {us vs : List Nat} (he : CountsTo es m j us)
    (hf : CountsTo fs n k vs) : CountsTo (es ++ fs) (m + n) (j + k) (us ++ vs) where
  opens := List.countP_append.trans (congrArg₂ (· + ·) he.opens hf.opens)
  finalised := List.countP_append.trans (congrArg₂ (· + ·) he.finalised hf.finalised)
  flushed := List.countP_append.trans (congrArg₂ (· + ·) he.flushed hf.flushed)
  closes := by rw [closeCount_append, he.closes, hf.closes]
  writes := by rw [busWrites_append, List.length_append, he.writes, hf.writes]
  waits := List.filterMap_append.trans (congrArg₂ (· ++ ·) he.waits hf.waits)

theorem countsTo_nil : CountsTo [] 0 0 [] := ⟨rfl, rfl, rfl, rfl, rfl, rfl⟩
theorem countsTo_wait (us : Nat) : CountsTo [.wait us] 0 0 [us] := ⟨rfl, rfl, rfl, rfl, rfl, rfl⟩
theorem countsTo_commandTx (s : State) (b : Byte) : CountsTo (commandTx s b) 1 4 [] := ⟨rfl, rfl, rfl, rfl, rfl, rfl⟩
theorem countsTo_nibbleTx (a : BusAddr) (bl : Bool) (n : Byte) : CountsTo (nibbleTx a bl n) 1 2 [] :=
  ⟨rfl, rfl, rfl, rfl, rfl, rfl⟩

end Sys2Proof.Machine
end

section
/-! INIT (41_sequencer.md R120 to R133): its registers, its events and their counts, and the handle it leaves where a Close
was answered negatively. -/

namespace Sys2Proof.Machine

open Sys2Proof.Claims

section Init

variable (a : BusAddr) (cols rows : Byte) (font oled : Bool) (s : State)

/-! ### The registers -/

theorem functionFlags_eq_initFunc : functionFlags rows font = initFunc rows font := by
  have h2Line : rows > 1#8 ↔ 1 < rows.toNat := BitVec.lt_def
  have hOneLine : rows = 1#8 ↔ rows.toNat = 1 := BitVec.toNat_inj.symm
  simp [functionFlags, initFunc, h2Line, hOneLine]

theorem RowTab.ofCols_eq : RowTab.ofCols cols = ⟨0x00#8, 0x40#8, cols, BitVec.ofNat 8 (0x40 + cols.toNat)⟩ := by
  have hsum : 0x40#8 + cols = BitVec.ofNat 8 (0x40 + cols.toNat) := by simp [BitVec.ofNat_add]
  rw [RowTab.ofCols, hsum]

/-- SEQ and RESULT, which the model writes after the events, belong to the registers of the claim. -/
theorem configured_eq_initRegs :
    (((s.configure (Config.blInit oled) a cols rows font oled).initMirrors).setSeq seqHomed).setResult 0#16
      = initRegs a cols rows font oled s := by
  rw [initRegs, ← functionFlags_eq_initFunc, ← RowTab.ofCols_eq]
  rfl

/-! ### The events -/

theorem homeEvents_eq : homeEvents s = commandTx s Config.codes.returnHome ++ [.wait 2000] := by
  rw [homeEvents, commandEvents_eq_commandTx]
  rfl

theorem clearEvents_eq :
    clearEvents s = commandTx s Config.codes.clearDisplay ++ [.wait 2000]
      ++ (if s.oled then commandTx s (setDdramByte s.rowtab.r0) else []) := by
  rw [clearEvents, rehomeEvents_eq, commandEvents_eq_commandTx, commandEvents_eq_commandTx]
  rfl

/-- The phases are the steps of the claim, on a state that holds the values the sequence sends. -/
theorem phaseEvents_initPhases {s : State} (hd : s.dctrl = Config.codes.dOn) (he : s.emode = Config.codes.eLeft)
    (hr : s.rowtab.r0 = 0x00#8) : phaseEvents (initPhases s) = initEvents s := by
  have h8 := nibbleEvents_eq_nibbleTx s.addr s.bl (n := Config.nib8Bit) rfl
  have h4 := nibbleEvents_eq_nibbleTx s.addr s.bl (n := Config.nib4Bit) rfl
  simp only [phaseEvents, initPhases, List.flatMap_cons, List.flatMap_nil, h8, h4, commandEvents_eq_commandTx,
    clearEvents_eq, homeEvents_eq, hd, he, hr, initEvents, List.append_assoc, List.cons_append, List.nil_append]
  rfl

/-- The counts of R131, added up over the steps R123 to R130. -/
theorem countsTo_initEvents :
    CountsTo (initEvents s) (initCloses s.oled) (if s.oled then 32 else 28) [50000, 4500, 4500, 150, 2000, 2000] := by
  have hwait (us : Nat) := countsTo_wait us
  have hnibble (n : Byte) := countsTo_nibbleTx s.addr s.bl n
  have hcommand (b : Byte) := countsTo_commandTx s b
  have hrehome : CountsTo (if s.oled then commandTx s (Config.codes.setDdramAddr ||| 0x00#8) else [])
      (if s.oled then 1 else 0) (if s.oled then 4 else 0) [] := by
    split
    · exact hcommand _
    · exact countsTo_nil
  have hsum := (hwait 50000).append (hnibble Config.nib8Bit) |>.append (hwait 4500) |>.append (hnibble Config.nib8Bit)
    |>.append (hwait 4500) |>.append (hnibble Config.nib8Bit) |>.append (hwait 150) |>.append (hnibble Config.nib4Bit)
    |>.append (hcommand (Config.codes.functionSet ||| s.func))
    |>.append (hcommand (Config.codes.displayControl ||| Config.codes.dOn))
    |>.append (hcommand Config.codes.clearDisplay) |>.append (hwait 2000) |>.append hrehome
    |>.append (hcommand (Config.codes.entryModeSet ||| Config.codes.eLeft))
    |>.append (hcommand Config.codes.returnHome) |>.append (hwait 2000)
  rw [initEvents]
  cases ho : s.oled
  case false => rw [ho] at hsum; exact hsum
  case true => rw [ho] at hsum; exact hsum

/-! ### The whole of INIT -/

theorem initBody_eq_initDone :
    initBody (Config.blInit oled) a cols rows font oled s = initDone a cols rows font oled s := by
  let r := initRegs a cols rows font oled s
  let s0 := (s.configure (Config.blInit oled) a cols rows font oled).initMirrors
  have hregs : (s0.setSeq seqHomed).setResult 0#16 = r := configured_eq_initRegs a cols rows font oled s
  have hevents : phaseEvents (initPhases s0) = initEvents r :=
    calc phaseEvents (initPhases s0)
      _ = initEvents s0 := phaseEvents_initPhases rfl rfl rfl
      _ = initEvents ((s0.setSeq seqHomed).setResult 0#16) := rfl
      _ = initEvents r := by rw [hregs]
  have hcloses : closeCount (initEvents r) = initCloses oled := (countsTo_initEvents r).closes
  have htx : txAfter r.txopen (initEvents r) = false := hevents ▸ txAfter_initEvents r.txopen s0
  have hnack : s0.nacked (initEvents r) = s.nackedIn (initCloses oled) := by rw [State.nacked, hcloses]; rfl
  have hbus : ((s0.emit (initEvents r)).setSeq seqHomed).setResult 0#16 = afterBus r (initCloses oled) (initEvents r) := by
    rw [← State.emit_setSeq, ← State.emit_setResult, hregs, State.emit_eq_afterBus _ hcloses htx]
  calc initBody (Config.blInit oled) a cols rows font oled s
    _ = (((s0.emit (initEvents r)).setSeq seqHomed).setResult 0#16).setFailed
          (s.failed || s0.nacked (initEvents r)) := by rw [initBody_eq, ← hevents]; rfl
    _ = initDone a cols rows font oled s := by rw [hbus, hnack]; rfl

theorem exec_init_eq_initDone {s : State} (h0 : s.seq = 0#4) :
    exec (.init a cols rows font oled) s = .next (initDone a cols rows font oled s) := by
  rw [exec_init_of_unpowered h0, initBody_eq_initDone]

end Init

/-- Settles O16: an accepted INIT leaves the claimed state, and a handle past INIT refuses it. -/
theorem initRunsThePowerUpSequence : Obligations.InitRunsThePowerUpSequence := fun a cols rows font oled _ =>
  ⟨exec_init_eq_initDone a cols rows font oled, fun hn => exec_init_of_powered hn a cols rows font oled⟩

/-- Settles O17: the trace grows by the events of the claim, and their counts are those of its transactions. -/
theorem initEventCounts : Obligations.InitEventCounts := by
  intro a cols rows font oled s t h0 ht
  rw [exec_init_eq_initDone a cols rows font oled h0] at ht
  injection ht with ht
  obtain ⟨hopens, hfinalised, hflushed, -, hwrites, hwaits⟩ := countsTo_initEvents (initRegs a cols rows font oled s)
  exact ⟨initEvents (initRegs a cols rows font oled s), ht ▸ rfl, hopens, hfinalised, hflushed, hwrites, hwaits⟩

/-- Settles O18: the claimed state of O16 has FAILED set and SEQ 9, and each of the two refuses by itself. -/
theorem failedInitIsFatalToTheHandle : Obligations.FailedInitIsFatalToTheHandle := by
  intro a cols rows font oled s h0 hnack
  let t := initDone a cols rows font oled s
  have hfailed : t.failed = true := by
    show (s.failed || s.nackedIn (initCloses oled)) = true
    rw [hnack, Bool.or_true]
  have hready : t.ready = false := by rw [State.ready, hfailed, Bool.not_true, Bool.and_false]
  have hseq : t.seq ≠ 0#4 := show (9#4 : BitVec 4) ≠ 0#4 by decide
  exact ⟨t, exec_init_eq_initDone a cols rows font oled h0, rfl, hfailed, hready,
    fun i hi => exec_steady_of_failed hi hfailed, fun a' cols' rows' font' oled' => exec_init_of_powered hseq ..⟩

end Sys2Proof.Machine
end

section
/-! The guard of the steady-state requests in the terms of the obligations (60_exceptions.md R209), and the byte requests that
need no more than their events: CMD, WRITE, the refusals of WSTR, DEFCHAR (42_byte_ops.md R140 to R144). -/

namespace Sys2Proof.Machine

open Sys2Proof.Claims

variable {i : Instr} {s : State}

/-! ### The guard -/

theorem exec_steady_of_unready (hi : i.steady = true) (hf : s.failed = false) (hs : s.seq ≠ 9#4) :
    exec i s = .next (refusedWith 0x02#5 s) := by
  rw [exec_steady i hi, guardSteady_unready s _ hf hs]
  exact refuse_eq_refusedWith .notInit s

theorem exec_steady_of_accepts (hi : i.steady = true) (h : accepts s) : exec i s = accepted i s := by
  obtain ⟨hf, hs⟩ := h
  rw [exec_steady i hi, guardSteady_ready s _ hf hs]

/-- A steady-state request runs behind its guard as it runs once accepted. -/
theorem guardedRun_of_accepted {t : State → State} (hi : i.steady = true)
    (ht : ∀ s, accepts s → accepted i s = .next (t s)) : guardedRun i t := fun s =>
  ⟨exec_steady_of_failed hi, exec_steady_of_unready hi, fun h => (exec_steady_of_accepts hi h).trans (ht s h)⟩

/-! ### CMD and WRITE -/

theorem dataEvents_eq_dataTx (s : State) (b : Byte) : dataEvents s.addr s.bl b = dataTx s b := by
  rw [dataEvents, sendByte_eq_fourWrites]
  rfl

theorem perform_eq_afterBus {es : List Event} {n : Nat} (hn : closeCount es = n) (htx : txAfter s.txopen es = false)
    (v : Half) : perform es v s = .next { afterBus s n es with result := v } := by
  rw [perform, State.emit_eq_afterBus s hn htx]
  rfl

/-- Settles O19: the accepted CMD performs its one command transaction. -/
theorem commandSendsItsByte : Obligations.CommandSendsItsByte := by
  refine fun b => guardedRun_of_accepted rfl fun s _ => ?_
  rw [accepted, commandEvents_eq_commandTx]
  exact perform_eq_afterBus rfl rfl 0#16

/-- Settles O20: the accepted WRITE performs its one data transaction. -/
theorem writeCharSendsItsByteAsData : Obligations.WriteCharSendsItsByteAsData := by
  refine fun b => guardedRun_of_accepted rfl fun s _ => ?_
  rw [accepted, dataEvents_eq_dataTx]
  exact perform_eq_afterBus rfl rfl 1#16

/-! ### WSTR without its loop -/

/-- Settles O21: the accepted WSTR of length 0 only sets RESULT, and the guard does not look at the length. -/
theorem emptyStringEmitsNothing : Obligations.EmptyStringEmitsNothing :=
  ⟨guardedRun_of_accepted rfl fun _ _ => rfl, fun _ _ => ⟨exec_steady_of_failed rfl, exec_steady_of_unready rfl⟩⟩

/-! ### DEFCHAR -/

theorem closeCount_flatMap_dataEvents (a : BusAddr) (bl : Bool) (bs : List Byte) :
    closeCount (bs.flatMap (dataEvents a bl)) = bs.length := by
  induction bs with
  | nil => rfl
  | cons b bs ih => rw [List.flatMap_cons, closeCount_append, closeCount_dataEvents, ih, List.length_cons, Nat.add_comm]

/-- A command transaction, then a data transaction for each byte. -/
theorem State.emit_command_rows (s : State) (b : Byte) (rows : List Byte) :
    (s.emit (commandEvents s.addr s.bl b)).emit (rows.flatMap (dataEvents s.addr s.bl))
      = afterBus s (rows.length + 1) (commandTx s b ++ rows.flatMap (dataTx s)) := by
  have hdata : dataEvents s.addr s.bl = dataTx s := funext (dataEvents_eq_dataTx s)
  rw [← State.emit_append, ← commandEvents_eq_commandTx, ← hdata]
  refine State.emit_eq_afterBus s ?_ ?_
  · rw [closeCount_append, closeCount_commandEvents, closeCount_flatMap_dataEvents, Nat.add_comm]
  · rw [txAfter_append, txAfter_commandEvents, txAfter_flatMap_dataEvents]

/-- Settles O25: after the set-CGRAM command the row loop finds its eight bytes on DIN, or holds with the rest to read. -/
theorem defineCustomCharSendsEightRows : Obligations.DefineCustomCharSendsEightRows := by
  intro slot src s select
  have hselect : select = commandTx s (setCgramByte slot) := by rw [setCgramByte_eq]
  let u := s.emit (commandEvents s.addr s.bl (setCgramByte slot))
  have hrows (rows : List Byte) : u.emit (rows.flatMap (dataEvents u.addr u.bl))
      = afterBus s (rows.length + 1) (select ++ rows.flatMap (dataTx s)) := by
    rw [hselect, ← State.emit_command_rows]
    simp [u]
  have hdin : u.din = s.din := State.emit_din s _
  have hexec (h : accepts s) : exec (.defineCustomChar slot src) s = .next (glyphLoop 8 u) :=
    exec_steady_of_accepts (i := .defineCustomChar slot src) rfl h
  refine ⟨exec_steady_of_failed rfl, exec_steady_of_unready rfl, fun h hn => ?_, fun h hn => ?_⟩
  · rw [hexec h, glyphLoop_enough 8 u (by rwa [hdin]), hrows, hdin, List.length_take_of_le hn]
    rfl
  · rw [hexec h, glyphLoop_short 8 u (by rwa [hdin]), hrows, hdin]
    rfl

end Sys2Proof.Machine
end

section
/-! WSTR cut into transactions (42_byte_ops.md R142, R143): what the batches of a string are, what their events count and carry,
and the loop of WSTR as a run of batches. -/

namespace Sys2Proof.Machine

open Sys2Proof.Claims

/-! ### The batches of a string -/

section Batches

variable {k : Nat}

theorem batches_nil (k fuel : Nat) : batches k fuel [] = [] := by cases fuel <;> rfl

theorem batches_of_ne_nil (k fuel : Nat) {cs : List Byte} (hcs : cs ≠ []) :
    batches k (fuel + 1) cs = cs.take k :: batches k fuel (cs.drop k) := by
  cases cs with
  | nil => exact absurd rfl hcs
  | cons c cs => rfl

theorem batches_ne_nil (k : Nat) {fuel : Nat} {cs : List Byte} (hcs : cs ≠ []) (hf : cs.length ≤ fuel) :
    batches k fuel cs ≠ [] := by
  obtain ⟨fuel, rfl⟩ := Nat.exists_eq_add_of_le' ((List.length_pos_iff.mpr hcs).trans_le hf)
  rw [batches_of_ne_nil k fuel hcs]
  exact List.cons_ne_nil _ _

/-- What a transaction leaves to send takes less fuel. -/
theorem length_drop_le_fuel (hk : 1 ≤ k) {fuel : Nat} {cs : List Byte} (hf : cs.length ≤ fuel + 1) :
    (cs.drop k).length ≤ fuel := by
  rw [List.length_drop]
  omega

theorem flatten_batches (hk : 1 ≤ k) {fuel : Nat} {cs : List Byte} (hf : cs.length ≤ fuel) :
    (batches k fuel cs).flatten = cs := by
  induction fuel generalizing cs with
  | zero => exact (List.length_eq_zero_iff.mp (Nat.le_zero.mp hf)).symm
  | succ fuel ih =>
    rcases eq_or_ne cs [] with rfl | hcs
    · rfl
    · rw [batches_of_ne_nil k fuel hcs, List.flatten_cons, ih (length_drop_le_fuel hk hf), List.take_append_drop]

/-- One transaction more, for the first `k` of `n` characters, in the quotient rounded up. -/
theorem ceilDiv_of_drop (hk : 1 ≤ k) {n : Nat} (hn : 0 < n) : (n - k + k - 1) / k + 1 = (n + k - 1) / k := by
  have hwhole : n + k - 1 = n - 1 + k := by omega
  rw [hwhole, Nat.add_div_right _ hk]
  rcases Nat.lt_or_ge n k with hlt | hge
  · have hlast : n - k + k - 1 = k - 1 := by omega
    rw [hlast, Nat.div_eq_of_lt (by omega), Nat.div_eq_of_lt (by omega)]
  · rw [Nat.sub_add_cancel hge]

/-- A string takes as many transactions as `k` goes into its length, rounded up. -/
theorem length_batches (hk : 1 ≤ k) {fuel : Nat} {cs : List Byte} (hf : cs.length ≤ fuel) :
    (batches k fuel cs).length = (cs.length + k - 1) / k := by
  have hzero : (0 + k - 1) / k = 0 := Nat.div_eq_of_lt (by omega)
  induction fuel generalizing cs with
  | zero =>
    obtain rfl : cs = [] := List.length_eq_zero_iff.mp (Nat.le_zero.mp hf)
    exact hzero.symm
  | succ fuel ih =>
    rcases eq_or_ne cs [] with rfl | hcs
    · exact hzero.symm
    · rw [batches_of_ne_nil k fuel hcs, List.length_cons, ih (length_drop_le_fuel hk hf), List.length_drop]
      exact ceilDiv_of_drop hk (List.length_pos_iff.mpr hcs)

end Batches

/-! ### Their events -/

/-- The transactions depend on the state by their target and its backlight only. -/
theorem openBatches_congr {s t : State} (ha : t.addr = s.addr) (hbl : t.bl = s.bl) (bs : List (List Byte)) :
    openBatches t bs = openBatches s bs := by
  fun_induction openBatches s bs with
  | case1 => rw [openBatches, ha]
  | case2 b => rw [openBatches, ha, hbl]
  | case3 b b' bs ih => rw [openBatches, ha, hbl, ih]

theorem txAfter_chars (p bl : Bool) (cs : List Byte) : txAfter p (cs.flatMap (fourWrites bl true)) = p := by
  induction cs with
  | nil => rfl
  | cons c cs ih => exact ih

/-- The last transaction is left open. -/
theorem txAfter_openBatches (p : Bool) (s : State) (bs : List (List Byte)) : txAfter p (openBatches s bs) = true := by
  fun_induction openBatches s bs generalizing p with
  | case1 => rfl
  | case2 b => exact txAfter_chars true s.bl b
  | case3 b b' bs ih => rw [txAfter_append]; exact ih _

/-- The counts of 42_byte_ops.md R143: `txs` Opens, `conts` Closes that the next Open continues and `ends` that finalise,
`writes` bus writes, no Wait. -/
structure StringCounts (es : List Event) (txs conts ends writes : Nat) : Prop where
  opens : opens es = txs
  flushed : closesWith false es = conts
  finalised : closesWith true es = ends
  closes : closeCount es = conts + ends
  writes : (busWrites es).length = writes
  waits : waits es = []

theorem StringCounts.append {es fs : List Event} {o o' c c' t t' w w' : Nat} (he : StringCounts es o c t w)
    (hf : StringCounts fs o' c' t' w') : StringCounts (es ++ fs) (o + o') (c + c') (t + t') (w + w') where
  opens := List.countP_append.trans (congrArg₂ (· + ·) he.opens hf.opens)
  flushed := List.countP_append.trans (congrArg₂ (· + ·) he.flushed hf.flushed)
  finalised := List.countP_append.trans (congrArg₂ (· + ·) he.finalised hf.finalised)
  closes := by rw [closeCount_append, he.closes, hf.closes, Nat.add_add_add_comm]
  writes := by rw [busWrites_append, List.length_append, he.writes, hf.writes]
  waits := List.filterMap_append.trans (congrArg₂ (· ++ ·) he.waits hf.waits)

theorem stringCounts_open (a : BusAddr) : StringCounts [.openTx a] 1 0 0 0 := ⟨rfl, rfl, rfl, rfl, rfl, rfl⟩
theorem stringCounts_flush : StringCounts [.closeTx false] 0 1 0 0 := ⟨rfl, rfl, rfl, rfl, rfl, rfl⟩
theorem stringCounts_close : StringCounts [.closeTx true] 0 0 1 0 := ⟨rfl, rfl, rfl, rfl, rfl, rfl⟩
theorem stringCounts_char (bl : Bool) (c : Byte) : StringCounts (fourWrites bl true c) 0 0 0 4 :=
  ⟨rfl, rfl, rfl, rfl, rfl, rfl⟩

theorem stringCounts_chars (bl : Bool) (cs : List Byte) :
    StringCounts (cs.flatMap (fourWrites bl true)) 0 0 0 (4 * cs.length) := by
  induction cs with
  | nil => exact ⟨rfl, rfl, rfl, rfl, rfl, rfl⟩
  | cons c cs ih =>
    rw [List.flatMap_cons, List.length_cons, Nat.mul_succ, Nat.add_comm _ 4]
    exact (stringCounts_char bl c).append ih

/-- An Open for each batch, a flush between two of them, four writes a character. -/
theorem stringCounts_openBatches (s : State) (b : List Byte) (bs : List (List Byte)) :
    StringCounts (openBatches s (b :: bs)) (bs.length + 1) bs.length 0 (4 * (b :: bs).flatten.length) := by
  induction bs generalizing b with
  | nil => simpa [openBatches] using (stringCounts_open s.addr).append (stringCounts_chars s.bl b)
  | cons b' bs ih =>
    have hfirst := (stringCounts_open s.addr).append (stringCounts_chars s.bl b)
    have hbatch := hfirst.append (stringCounts_flush.append (ih b'))
    have hopens : 1 + 0 + (0 + (bs.length + 1)) = (b' :: bs).length + 1 := by rw [List.length_cons]; omega
    have hflushed : 0 + 0 + (1 + bs.length) = (b' :: bs).length := by rw [List.length_cons]; omega
    have hwrites : 0 + 4 * b.length + (0 + 4 * (b' :: bs).flatten.length) = 4 * (b :: b' :: bs).flatten.length := by
      rw [List.flatten_cons (l := b), List.length_append]; omega
    rwa [hopens, hflushed, hwrites] at hbatch

/-- With the last batch finalised: one Close for each batch. -/
theorem stringCounts_finishedBatches (s : State) {bs : List (List Byte)} (hbs : bs ≠ []) :
    StringCounts (openBatches s bs ++ [.closeTx true]) bs.length (bs.length - 1) 1 (4 * bs.flatten.length) := by
  obtain ⟨b, bs, rfl⟩ := List.exists_cons_of_ne_nil hbs
  exact (stringCounts_openBatches s b bs).append stringCounts_close

theorem closeCount_openBatches (s : State) (bs : List (List Byte)) : closeCount (openBatches s bs) = bs.length - 1 := by
  cases bs with
  | nil => rfl
  | cons b bs => exact (stringCounts_openBatches s b bs).closes

/-! ### The bytes they carry -/

theorem bytesSent_chars_append (bl : Bool) (cs : List Byte) (es : List Event) :
    bytesSent Config.wiring (cs.flatMap (fourWrites bl true) ++ es)
      = cs.map (·, true) ++ bytesSent Config.wiring es := by
  induction cs with
  | nil => rfl
  | cons c cs ih =>
    rw [List.flatMap_cons, List.append_assoc, ← sendByte_eq_fourWrites,
      bytesSent_sendByte_append Config.wiring wiring_wf, ih]
    rfl

/-- Each character once, in order, as data. -/
theorem bytesSent_openBatches_append (s : State) (bs : List (List Byte)) (es : List Event) :
    bytesSent Config.wiring (openBatches s bs ++ es)
      = bs.flatten.map (·, true) ++ bytesSent Config.wiring es := by
  fun_induction openBatches s bs with
  | case1 => rfl
  | case2 b =>
    rw [List.flatten_singleton]
    exact bytesSent_chars_append s.bl b es
  | case3 b b' bs ih =>
    rw [List.flatten_cons, List.map_append, List.append_assoc, List.append_assoc, ← ih]
    exact bytesSent_chars_append s.bl b _

theorem bytesSent_finishedBatches (s : State) (bs : List (List Byte)) :
    bytesSent Config.wiring (openBatches s bs ++ [.closeTx true]) = bs.flatten.map (·, true) :=
  (bytesSent_openBatches_append s bs [.closeTx true]).trans (List.append_nil _)

/-- Bytes that are all data are all the data bytes, and no command bytes. -/
theorem dataBytes_of_bytesSent {es : List Event} {cs : List Byte} (h : bytesSent Config.wiring es = cs.map (·, true)) :
    dataBytes Config.wiring es = cs ∧ commandBytes Config.wiring es = [] := by
  constructor
  · simp [dataBytes, h, List.filter_map, Function.comp_def]
  · simp [commandBytes, h, List.filter_map, Function.comp_def]

/-! ### The loop -/

/-- A transaction of WSTR just opened, nothing queued in it. -/
def openString (s : State) : State := (s.emit [.openTx s.addr]).setQf 0#8

theorem wstrBody_of_ne_zero (cap : Nat) {len : Half} (hl : len ≠ 0#16) (s : State) :
    wstrBody cap len s = wstrLoop cap len len.toNat (openString s) := if_neg hl

section Loop

variable {k : Nat} {s : State}

theorem wstrChars_append (cap : Nat) (cs ds : List Byte) (s : State) :
    wstrChars cap (cs ++ ds) s = wstrChars cap ds (wstrChars cap cs s) := List.foldl_append

/-- Characters for which the transaction has room go into it. -/
theorem wstrChars_of_room {m : Nat} {cs : List Byte} (hq : s.qf = BitVec.ofNat 8 (2 * m))
    (hroom : m + cs.length ≤ k) :
    wstrChars (2 * k) cs s
      = (s.emit (cs.flatMap (fourWrites s.bl true))).setQf (BitVec.ofNat 8 (2 * (m + cs.length))) := by
  induction cs generalizing s m with
  | nil => exact (State.setQf_self _ _ hq).symm
  | cons c cs ih =>
    rw [List.length_cons] at hroom
    have hfits : ¬ s.qf.toNat + 2 > 2 * k := by rw [hq, BitVec.toNat_ofNat]; omega
    have hchar : wstrChar (2 * k) c s = (s.emit (fourWrites s.bl true c)).setQf (BitVec.ofNat 8 (2 * (m + 1))) := by
      rw [wstrChar_eq, if_neg hfits, wstrCharEvents, if_neg hfits, sendByte_eq_fourWrites, hq, ← BitVec.ofNat_add]
      rfl
    have hcons : wstrChars (2 * k) (c :: cs) s = wstrChars (2 * k) cs (wstrChar (2 * k) c s) := rfl
    have hcount : m + (c :: cs).length = m + 1 + cs.length := by rw [List.length_cons]; omega
    rw [hcons, hchar, ih rfl (by omega), hcount, List.flatMap_cons, State.emit_append]
    simp

/-- A full transaction is flushed before the next character: the rest of the string starts a new one. -/
theorem wstrChars_of_full (hk : 1 ≤ k ∧ k ≤ 127) (hq : s.qf = BitVec.ofNat 8 (2 * k)) {cs : List Byte} (hcs : cs ≠ []) :
    wstrChars (2 * k) cs s = wstrChars (2 * k) cs (openString (s.emit [.closeTx false])) := by
  obtain ⟨c, cs, rfl⟩ := List.exists_cons_of_ne_nil hcs
  have hfull : s.qf.toNat + 2 > 2 * k := by rw [hq, BitVec.toNat_ofNat]; omega
  have hempty : ¬ (0#8).toNat + 2 > 2 * k := by rw [BitVec.toNat_ofNat]; omega
  have hflush : wstrFlush (2 * k) s = openString (s.emit [.closeTx false]) := by
    rw [wstrFlush, if_pos hfull, openString, State.emit_addr, ← State.emit_append, List.singleton_append]
  have hkeep : wstrFlush (2 * k) (openString (s.emit [.closeTx false])) = openString (s.emit [.closeTx false]) :=
    if_neg hempty
  have hchar : wstrChar (2 * k) c s = wstrChar (2 * k) c (openString (s.emit [.closeTx false])) := by
    simp only [wstrChar, hflush, hkeep]
  exact congrArg (wstrChars (2 * k) cs) hchar

theorem wstrChars_openString_of_room {cs : List Byte} (hroom : cs.length ≤ k) :
    wstrChars (2 * k) cs (openString s)
      = (s.emit (.openTx s.addr :: cs.flatMap (fourWrites s.bl true))).setQf (BitVec.ofNat 8 (2 * cs.length)) := by
  have hchars := wstrChars_of_room (s := openString s) (k := k) (m := 0) (cs := cs) rfl (by omega)
  rw [hchars, Nat.zero_add]
  simp [openString, State.emit]
  rfl

/-- The characters of a string go out in its batches, and QF counts the frames of the last one. -/
theorem wstrChars_openString (hk : 1 ≤ k ∧ k ≤ 127) {fuel : Nat} {cs : List Byte} (hf : cs.length ≤ fuel) :
    wstrChars (2 * k) cs (openString s)
      = (s.emit (openBatches s (batches k fuel cs))).setQf
          (BitVec.ofNat 8 (2 * ((batches k fuel cs).getLastD []).length)) := by
  induction fuel generalizing s cs with
  | zero =>
    obtain rfl : cs = [] := List.length_eq_zero_iff.mp (Nat.le_zero.mp hf)
    rfl
  | succ fuel ih =>
    rcases eq_or_ne cs [] with rfl | hcs
    · rfl
    rw [batches_of_ne_nil k fuel hcs]
    rcases Nat.lt_or_ge k cs.length with hlt | hge
    · have hrest : cs.drop k ≠ [] := by simpa using hlt
      have hdrop : (cs.drop k).length ≤ fuel := length_drop_le_fuel hk.1 hf
      obtain ⟨b', bs, hbs⟩ := List.exists_cons_of_ne_nil (batches_ne_nil k hrest hdrop)
      have hlen : (cs.take k).length = k := List.length_take_of_le hlt.le
      let u := (s.emit (.openTx s.addr :: (cs.take k).flatMap (fourWrites s.bl true))).setQf (BitVec.ofNat 8 (2 * k))
      let t := u.emit [.closeTx false]
      have hfirst : wstrChars (2 * k) (cs.take k) (openString s) = u := by
        rw [wstrChars_openString_of_room hlen.le, hlen]
      calc wstrChars (2 * k) cs (openString s)
        _ = wstrChars (2 * k) (cs.drop k) (wstrChars (2 * k) (cs.take k) (openString s)) := by
          rw [← wstrChars_append, List.take_append_drop]
        _ = wstrChars (2 * k) (cs.drop k) (openString t) := by rw [hfirst, wstrChars_of_full hk rfl hrest]
        _ = (t.emit (openBatches s (b' :: bs))).setQf (BitVec.ofNat 8 (2 * ((b' :: bs).getLastD []).length)) := by
          rw [ih hdrop, openBatches_congr (s := s) (by simp [t, u]) (by simp [t, u]), hbs]
        _ = (s.emit (openBatches s (cs.take k :: batches k fuel (cs.drop k)))).setQf
              (BitVec.ofNat 8 (2 * ((cs.take k :: batches k fuel (cs.drop k)).getLastD []).length)) := by
          rw [hbs]
          simp only [t, u, State.emit_setQf, State.setQf_setQf, ← State.emit_append, openBatches, List.append_assoc]
          rfl
    · rw [List.take_of_length_le hge, List.drop_of_length_le hge, batches_nil]
      exact wstrChars_openString_of_room hge

end Loop

/-! ### The obligations -/

theorem exec_writeString_of_accepts {len : Half} {s : State} (h : accepts s) (hl : len ≠ 0#16) :
    exec (.writeString len) s = .next (wstrLoop Config.capFrames len len.toNat (openString s)) := by
  rw [exec_steady_of_accepts rfl h, accepted, wstrBody_of_ne_zero _ hl]

/-- The characters of a string of at most `len`, under the capacity of the model. -/
theorem wstrChars_capFrames (s : State) {fuel : Nat} {cs : List Byte} (hf : cs.length ≤ fuel) :
    wstrChars Config.capFrames cs (openString s)
      = (s.emit (openBatches s (batches (Config.capFrames / 2) fuel cs))).setQf
          (BitVec.ofNat 8 (2 * ((batches (Config.capFrames / 2) fuel cs).getLastD []).length)) := by
  obtain ⟨k, hcap, hk⟩ := capFrames_form
  have hhalf : 2 * k / 2 = k := Nat.mul_div_cancel_left k Nat.two_pos
  rw [hcap, hhalf]
  exact wstrChars_openString hk hf

/-- A string that holds leaves its last batch open. -/
theorem emit_openBatches (s : State) (bs : List (List Byte)) :
    s.emit (openBatches s bs) = { afterBus s (bs.length - 1) (openBatches s bs) with txopen := true } := by
  rw [State.emit_eq, txAfter_openBatches, closeCount_openBatches]
  rfl

/-- The Closes of a finished string: one for each batch. -/
theorem emit_finishedBatches (s : State) {bs : List (List Byte)} (hbs : bs ≠ []) :
    s.emit (openBatches s bs ++ [.closeTx true]) = afterBus s bs.length (openBatches s bs ++ [.closeTx true]) := by
  have hcloses : closeCount (openBatches s bs ++ [.closeTx true]) = bs.length := by
    rw [(stringCounts_finishedBatches s hbs).closes, Nat.sub_add_cancel (List.length_pos_iff.mpr hbs)]
  exact State.emit_eq_afterBus s hcloses (by rw [txAfter_append]; rfl)

theorem half_capFrames_pos : 1 ≤ Config.capFrames / 2 := by
  obtain ⟨k, hcap, hk, -⟩ := capFrames_form
  omega

/-- Two frames a character: the transactions are as many as the capacity goes into the frames, rounded up. -/
theorem length_batches_capFrames {fuel : Nat} {cs : List Byte} (hf : cs.length ≤ fuel) :
    (batches (Config.capFrames / 2) fuel cs).length
      = (2 * cs.length + Config.capFrames - 1) / Config.capFrames := by
  obtain ⟨k, hcap, hk, -⟩ := capFrames_form
  have hhalf : 2 * k / 2 = k := Nat.mul_div_cancel_left k Nat.two_pos
  have hframes : (2 * cs.length + 2 * k - 1) / 2 = cs.length + k - 1 := by omega
  rw [hcap, hhalf, length_batches hk hf, ← Nat.div_div_eq_div_mul, hframes]

theorem take_len_ne_nil {len : Half} (hl : len ≠ 0#16) {bytes : List Byte} (hn : len.toNat ≤ bytes.length) :
    bytes.take len.toNat ≠ [] := by
  have hpos : len.toNat ≠ 0 := fun h0 => hl (BitVec.eq_of_toNat_eq h0)
  rw [ne_eq, ← List.length_eq_zero_iff, List.length_take_of_le hn]
  exact hpos

/-- Settles O22: the loop finds every character, and its end finalises the last batch. -/
theorem writeStringSendsItsBatches : Obligations.WriteStringSendsItsBatches := by
  intro len s h hl hn
  have hlen : (s.din.take len.toNat).length ≤ len.toNat := List.length_take_le _ _
  have hbs := batches_ne_nil (Config.capFrames / 2) (take_len_ne_nil hl hn) hlen
  have hdin : (openString s).din = s.din := rfl
  rw [exec_writeString_of_accepts h hl, wstrLoop_enough _ _ _ (openString s) hn, hdin, wstrChars_capFrames s hlen,
    wstrFinish, State.emit_setDin, State.emit_setQf, ← State.emit_append, emit_finishedBatches s hbs]
  rfl

/-- Settles O23: the loop sends what DIN has, and leaves the last batch open. -/
theorem writeStringHoldsInsideItsTransaction : Obligations.WriteStringHoldsInsideItsTransaction := by
  intro len s h hn
  have hl : len ≠ 0#16 := by rintro rfl; exact absurd hn (Nat.not_lt_zero _)
  have hdin : (openString s).din = s.din := rfl
  rw [exec_writeString_of_accepts h hl, wstrLoop_short _ _ _ (openString s) hn, hdin, wstrChars_capFrames s hn.le,
    emit_openBatches]
  rfl

/-- Settles O24: the events are those of O22, and the batches they hold are the string cut up. -/
theorem writeStringBatchingCounts : Obligations.WriteStringBatchingCounts := by
  intro len s h hl hn
  let cs := s.din.take len.toNat
  let bs := batches (Config.capFrames / 2) len.toNat cs
  have hlen : cs.length = len.toNat := List.length_take_of_le hn
  have hflat : bs.flatten = cs := flatten_batches half_capFrames_pos hlen.le
  have hbs : bs ≠ [] := batches_ne_nil _ (take_len_ne_nil hl hn) hlen.le
  have htxs : bs.length = (2 * len.toNat + Config.capFrames - 1) / Config.capFrames :=
    hlen ▸ length_batches_capFrames hlen.le
  obtain ⟨hopens, hflushed, hfinalised, -, hwrites, hwaits⟩ := stringCounts_finishedBatches s hbs
  obtain ⟨hdata, hcommand⟩ := dataBytes_of_bytesSent (bytesSent_finishedBatches s bs)
  exact ⟨_, openBatches s bs ++ [.closeTx true], writeStringSendsItsBatches len s h hl hn, rfl, hopens.trans htxs,
    by rw [hflushed, hopens], hfinalised, hwaits, hdata.trans hflat, hcommand, by rw [hwrites, hflat, hlen]⟩

end Sys2Proof.Machine
end

section
/-! The control requests (43_control_ops.md R160 to R180): each accepted one performs its events, after writing at most one
mirror register, and SETCUR looks its row up in ROWTAB first. -/

namespace Sys2Proof.Machine

open Sys2Proof.Claims

variable {i : Instr} {s : State}

/-! ### One command transaction -/

theorem perform_commandEvents (s : State) (b : Byte) :
    perform (commandEvents s.addr s.bl b) 0#16 s = .next { afterBus s 1 (commandTx s b) with result := 0#16 } := by
  rw [commandEvents_eq_commandTx]
  exact perform_eq_afterBus rfl rfl 0#16

/-! ### CLEAR and HOME -/

theorem closeCount_clearEvents (s : State) : closeCount (clearEvents s) = if s.oled then 2 else 1 := by
  rw [clearEvents, closeCount_append, closeCount_append, closeCount_commandEvents]
  split
  · rw [rehomeEvents_eq, closeCount_commandEvents]
    rfl
  · rfl

/-- Settles O26: the accepted CLEAR performs one transaction, and on OLED the re-home's. -/
theorem clearSettlesThenRehomesOnOled : Obligations.ClearSettlesThenRehomesOnOled := by
  refine guardedRun_of_accepted rfl fun s _ => ?_
  rw [accepted, perform_eq_afterBus (closeCount_clearEvents s) (txAfter_clearEvents s), clearEvents_eq]
  rfl

/-- Settles O27: the accepted HOME performs one transaction and its Wait. -/
theorem homeSettles : Obligations.HomeSettles := by
  refine guardedRun_of_accepted rfl fun s _ => ?_
  rw [accepted, homeEvents_eq]
  exact perform_eq_afterBus rfl rfl 0#16

/-! ### SETCUR -/

/-- The address of a position, through the row index of the claims. -/
theorem cursorAddress_eq (rows : Byte) (tab : RowTab) (col row : Byte) :
    cursorAddress rows tab col row = [tab.r0, tab.r1, tab.r2, tab.r3][rowIndex rows row]?.map (· + col) := by
  rw [cursorAddress, RowTab.get_eq, clampRow_toNat]
  rfl

theorem exec_setCursor_of_row_oob (col : Byte) {row : Byte} (h : accepts s) (hr : 4 ≤ rowIndex s.rows row) :
    exec (.setCursor col row) s = .next (refusedWith 0x08#5 s) := by
  have hnone : cursorAddress s.rows s.rowtab col row = none := by
    rw [cursorAddress_eq, List.getElem?_eq_none hr]
    rfl
  rw [exec_steady_of_accepts rfl h]
  simp only [accepted, hnone]
  exact refuse_eq_refusedWith .rowOob s

theorem exec_setCursor_of_start (col : Byte) {row start : Byte} (h : accepts s)
    (hs : [s.rowtab.r0, s.rowtab.r1, s.rowtab.r2, s.rowtab.r3][rowIndex s.rows row]? = some start) :
    exec (.setCursor col row) s
      = .next { afterBus s 1 (commandTx s (Config.codes.setDdramAddr ||| (start + col))) with result := 0#16 } := by
  have hsome : cursorAddress s.rows s.rowtab col row = some (start + col) := by
    rw [cursorAddress_eq, hs]
    rfl
  rw [exec_steady_of_accepts rfl h]
  simp only [accepted, hsome]
  exact perform_commandEvents s _

/-- SETCUR sees its row only through the row index. -/
theorem exec_setCursor_congr (col : Byte) {row row' : Byte} (h : accepts s)
    (hr : rowIndex s.rows row = rowIndex s.rows row') :
    exec (.setCursor col row) s = exec (.setCursor col row') s := by
  have haddress : cursorAddress s.rows s.rowtab col row = cursorAddress s.rows s.rowtab col row' := by
    rw [cursorAddress_eq, cursorAddress_eq, hr]
  rw [exec_steady_of_accepts rfl h, exec_steady_of_accepts rfl h]
  simp only [accepted, haddress]

/-- Settles O28: the guard, then the two answers of the row table. -/
theorem setCursorClampsRowAndSendsAddress : Obligations.SetCursorClampsRowAndSendsAddress := by
  refine fun col row s => ⟨exec_steady_of_failed rfl, exec_steady_of_unready rfl,
    exec_setCursor_of_row_oob col, fun start h hs => ?_⟩
  have hsum : BitVec.ofNat 8 (start.toNat + col.toNat) = start + col := by simp [BitVec.ofNat_add]
  rw [hsum]
  exact exec_setCursor_of_start col h hs

/-- The row ROWS itself is not clamped (R162 (b), (c)). -/
theorem rowIndex_self (rows : Byte) : rowIndex rows rows = rows.toNat := if_neg (Nat.lt_irrefl _)

/-- The row after it is clamped to the row before it (R162 (a)). -/
theorem rowIndex_succ_eq_pred {rows : Byte} (h1 : 1 ≤ rows.toNat) (h254 : rows.toNat ≤ 254) :
    rowIndex rows (rows + 1#8) = rowIndex rows (rows - 1#8) := by
  have hsucc : (rows + 1#8).toNat = rows.toNat + 1 := by bv_omega
  have hpred : (rows - 1#8).toNat = rows.toNat - 1 := by bv_omega
  rw [rowIndex, rowIndex, hsucc, hpred, if_pos (by omega), if_neg (by omega)]
  omega

/-- Settles O29: the three rows are those of the clamp's boundary, and SETCUR goes by the row index. -/
theorem cursorRowClampIsOffByOne : Obligations.CursorRowClampIsOffByOne := by
  refine fun col s h => ⟨fun h1 h254 => ?_, fun h4 => ?_, fun start hs => ?_⟩
  · exact exec_setCursor_congr col h (rowIndex_succ_eq_pred h1 h254)
  · exact exec_setCursor_of_row_oob col h (by rwa [rowIndex_self])
  · exact exec_setCursor_of_start col h (by rwa [rowIndex_self])

/-! ### The display-control, shift, entry-mode and backlight requests -/

/-- A request that is the template of the display-control toggles behind its guard. -/
theorem guardedRun_of_updateDisplayControl (value : Byte → Byte) (hi : i.steady = true)
    (h : ∀ s, accepted i s = updateDisplayControl (value s.dctrl) s) :
    guardedRun i (fun s =>
      { afterBus s 1 (commandTx s (Config.codes.displayControl ||| value s.dctrl)) with
        dctrl := value s.dctrl, result := 0#16 }) :=
  guardedRun_of_accepted hi fun s _ => by
    rw [h s]
    exact perform_commandEvents (s.setDctrl (value s.dctrl)) (displayControlByte (value s.dctrl))

/-- Settles O30: each toggle is the template with its own value of DCTRL. -/
theorem displayTogglesResendControlByte : Obligations.DisplayTogglesResendControlByte :=
  ⟨guardedRun_of_updateDisplayControl (setFlag · Config.codes.dOn) rfl fun _ => rfl,
    guardedRun_of_updateDisplayControl (clearFlag · Config.codes.dOn) rfl fun _ => rfl,
    guardedRun_of_updateDisplayControl (setFlag · Config.codes.cOn) rfl fun _ => rfl,
    guardedRun_of_updateDisplayControl (clearFlag · Config.codes.cOn) rfl fun _ => rfl,
    guardedRun_of_updateDisplayControl (setFlag · Config.codes.bOn) rfl fun _ => rfl,
    guardedRun_of_updateDisplayControl (clearFlag · Config.codes.bOn) rfl fun _ => rfl⟩

/-- A request that is the template of the shifts behind its guard. -/
theorem guardedRun_of_sendShift (hi : i.steady = true) {display right : Bool} {bits : Byte}
    (h : ∀ s, accepted i s = sendShift display right s)
    (hb : shiftByte display right = Config.codes.cursorShift ||| bits) :
    guardedRun i (fun s => { afterBus s 1 (commandTx s (Config.codes.cursorShift ||| bits)) with result := 0#16 }) :=
  guardedRun_of_accepted hi fun s _ => by rw [h s, sendShift, hb, perform_commandEvents]

/-- Settles O31: each shift is the template with its own fixed byte. -/
theorem shiftsSendOneFixedCommand : Obligations.ShiftsSendOneFixedCommand :=
  ⟨guardedRun_of_sendShift rfl (fun _ => rfl) rfl, guardedRun_of_sendShift rfl (fun _ => rfl) rfl,
    guardedRun_of_sendShift rfl (fun _ => rfl) rfl, guardedRun_of_sendShift rfl (fun _ => rfl) rfl⟩

/-- A request that is the template of the entry-mode requests behind its guard. -/
theorem guardedRun_of_updateEntryMode (value : Byte → Byte) (hi : i.steady = true)
    (h : ∀ s, accepted i s = updateEntryMode (value s.emode) s) :
    guardedRun i (fun s =>
      { afterBus s 1 (commandTx s (Config.codes.entryModeSet ||| value s.emode)) with
        emode := value s.emode, result := 0#16 }) :=
  guardedRun_of_accepted hi fun s _ => by
    rw [h s]
    exact perform_commandEvents (s.setEmode (value s.emode)) (entryModeByte (value s.emode))

/-- Settles O32: each entry-mode request is the template with its own value of EMODE. -/
theorem entryModeRequestsResendModeByte : Obligations.EntryModeRequestsResendModeByte :=
  ⟨guardedRun_of_updateEntryMode (setFlag · Config.codes.eLeft) rfl fun _ => rfl,
    guardedRun_of_updateEntryMode (clearFlag · Config.codes.eLeft) rfl fun _ => rfl,
    guardedRun_of_updateEntryMode (setFlag · Config.codes.eShift) rfl fun _ => rfl,
    guardedRun_of_updateEntryMode (clearFlag · Config.codes.eShift) rfl fun _ => rfl⟩

/-- A request that is the template of the backlight requests behind its guard. -/
theorem guardedRun_of_updateBacklight (hi : i.steady = true) {v : Bool} (h : ∀ s, accepted i s = updateBacklight v s) :
    guardedRun i (fun s =>
      { afterBus s 1 [.openTx s.addr, .wr (if v then Config.wiring.blb else 0#8), .closeTx true] with
        bl := v, result := 0#16 }) :=
  guardedRun_of_accepted hi fun s _ =>
    (h s).trans (perform_eq_afterBus (s := s.setBl v) (es := backlightEvents s.addr v) rfl rfl 0#16)

/-- Settles O33: each backlight request is the template with its own value of BL. -/
theorem backlightRequestsWriteOneBareByte : Obligations.BacklightRequestsWriteOneBareByte :=
  ⟨guardedRun_of_updateBacklight rfl fun _ => rfl, guardedRun_of_updateBacklight rfl fun _ => rfl,
    fun _ => guardedRun_of_updateBacklight rfl fun _ => rfl⟩

/-! ### The legacy stubs -/

/-- Settles O34: each of the five is `acceptStub`, which looks at no register. -/
theorem legacyStubsOnlyClearResult : Obligations.LegacyStubsOnlyClearResult := by
  intro i hi s
  have hstub : exec i s = acceptStub s := by
    simp only [List.mem_cons, List.not_mem_nil, or_false] at hi
    rcases hi with rfl | rfl | rfl | rfl | rfl <;> rfl
  exact hstub

end Sys2Proof.Machine
end

section
/-! A mirror or backlight request issued twice (43_control_ops.md R181): it writes its register first, and its events are
those of the register as written, so a second performance finds nothing to change. -/

namespace Sys2Proof.Machine

open Sys2Proof.Claims

variable {i : Instr} {s t : State}

/-! ### Writing a mirror register twice -/

theorem setFlag_setFlag (reg flag : Byte) : setFlag (setFlag reg flag) flag = setFlag reg flag := by
  rw [setFlag, setFlag, BitVec.or_assoc, BitVec.or_self]

theorem clearFlag_clearFlag (reg flag : Byte) : clearFlag (clearFlag reg flag) flag = clearFlag reg flag := by
  rw [clearFlag, clearFlag, BitVec.and_assoc, BitVec.and_self]

theorem dctrlAfter_dctrlAfter (i : Instr) (d : Byte) : dctrlAfter i (dctrlAfter i d) = dctrlAfter i d := by
  cases i
  case display | cursor | blink => exact setFlag_setFlag d _
  case noDisplay | noCursor | noBlink => exact clearFlag_clearFlag d _
  all_goals rfl

theorem emodeAfter_emodeAfter (i : Instr) (e : Byte) : emodeAfter i (emodeAfter i e) = emodeAfter i e := by
  cases i
  case setTextDirectionLtr | autoscroll => exact setFlag_setFlag e _
  case setTextDirectionRtl | noAutoscroll => exact clearFlag_clearFlag e _
  all_goals rfl

theorem blAfter_blAfter (i : Instr) (b : Bool) : blAfter i (blAfter i b) = blAfter i b := by
  cases i <;> rfl

/-- The state with the mirror registers as the request writes them. -/
def mirrored (i : Instr) (s : State) : State :=
  ((s.setDctrl (dctrlAfter i s.dctrl)).setEmode (emodeAfter i s.emode)).setBl (blAfter i s.bl)

/-- Once the request has written them, writing them again changes nothing. -/
theorem mirrored_eq_self (h : MirrorsAfter i s t) : mirrored i t = t := by
  obtain ⟨hd, he, hb⟩ := h
  have hd' : dctrlAfter i t.dctrl = t.dctrl := by rw [hd, dctrlAfter_dctrlAfter]
  have he' : emodeAfter i t.emode = t.emode := by rw [he, emodeAfter_emodeAfter]
  have hb' : blAfter i t.bl = t.bl := by rw [hb, blAfter_blAfter]
  rw [mirrored, hd', he', hb']
  rfl

/-! ### Performing the request twice -/

/-- The events of a repeatable request, off the registers as it has written them. -/
def mirrorEvents (i : Instr) (s : State) : List Event :=
  match i with
  | .display | .noDisplay | .cursor | .noCursor | .blink | .noBlink =>
    commandEvents s.addr s.bl (displayControlByte s.dctrl)
  | .setTextDirectionLtr | .setTextDirectionRtl | .autoscroll | .noAutoscroll =>
    commandEvents s.addr s.bl (entryModeByte s.emode)
  | .backlightOn | .backlightOff | .setBacklight _ => backlightEvents s.addr s.bl
  | _ => []

theorem mirrorEvents_congr (i : Instr) (ha : t.addr = s.addr) (hd : t.dctrl = s.dctrl) (he : t.emode = s.emode)
    (hb : t.bl = s.bl) : mirrorEvents i t = mirrorEvents i s := by
  simp only [mirrorEvents, ha, hd, he, hb]

theorem steady_of_repeatable (hi : i ∈ repeatable) : i.steady = true := by
  revert i
  decide

/-- An accepted repeatable request writes its register, then emits. -/
theorem exec_repeatable (hi : i ∈ repeatable) (h : accepts s) :
    exec i s = perform (mirrorEvents i (mirrored i s)) 0#16 (mirrored i s) := by
  rw [exec_steady_of_accepts (steady_of_repeatable hi) h]
  cases i
  case display | noDisplay | cursor | noCursor | blink | noBlink => rfl
  case setTextDirectionLtr | setTextDirectionRtl | autoscroll | noAutoscroll => rfl
  case backlightOn | backlightOff | setBacklight => rfl
  all_goals simp [repeatable] at hi

/-- Settles O35: the first performance leaves the registers written, so the second starts and emits from them. -/
theorem mirrorRequestsAreIdempotent : Obligations.MirrorRequestsAreIdempotent := by
  intro i hi s h
  let m := mirrored i s
  let es := mirrorEvents i m
  let t := (m.emit es).setResult 0#16
  have hst : exec i s = .next t := exec_repeatable hi h
  have hmt : mirrored i t = t :=
    mirrored_eq_self (accepted_mirrorsAfter ((exec_steady_of_accepts (steady_of_repeatable hi) h).symm.trans hst))
  have hes : mirrorEvents i t = es :=
    mirrorEvents_congr i (by simp [t]) (by simp [t]) (by simp [t]) (by simp [t])
  have hat : accepts t := by simpa [accepts, t, m, mirrored] using h
  have htu : exec i t = .next ((t.emit es).setResult 0#16) := by
    rw [exec_repeatable hi hat, hmt, hes]
    rfl
  exact ⟨t, _, es, hst, htu, by simp [t, m, mirrored], by simp, by simp, by simp, by simp, by simp⟩

end Sys2Proof.Machine
end

section
/-! Refusals and faults (60_exceptions.md R200 to R211): which check refuses a request and what it then leaves, that every step
answers a next state, and that no fault bit is ever cleared. -/

namespace Sys2Proof.Machine

open Sys2Proof.Claims

variable {i : Instr} {s t : State}

/-! ### The check that refuses a request -/

/-- Settles O37: the guard looks at FAILED, then at SEQ, before the request is looked at. -/
theorem steadyRequestsNeedAReadyHandle : Obligations.SteadyRequestsNeedAReadyHandle := fun _ _ hi =>
  ⟨exec_steady_of_failed hi, exec_steady_of_unready hi⟩

theorem refusalBit_of_failed (hi : i.steady = true) (hf : s.failed = true) : refusalBit i s = some 0x10#5 := by
  cases i
  case init | legacyStatus | legacyKeypad | legacyBargraph | legacyContrast | legacyDelay => cases hi
  all_goals simp [refusalBit, Instr.steady, hf]

theorem refusalBit_of_unready (hi : i.steady = true) (hf : s.failed = false) (hs : s.seq ≠ 9#4) :
    refusalBit i s = some 0x02#5 := by
  cases i
  case init | legacyStatus | legacyKeypad | legacyBargraph | legacyContrast | legacyDelay => cases hi
  all_goals simp [refusalBit, Instr.steady, hf, hs]

theorem refusalBit_setCursor_of_accepts (h : accepts s) (col row : Byte) :
    refusalBit (.setCursor col row) s = if 4 ≤ rowIndex s.rows row then some 0x08#5 else none := by
  obtain ⟨hf, hs⟩ := h
  simp [refusalBit, hf, hs]

/-- On a ready handle only SETCUR is still checked. -/
theorem refusalBit_of_accepts (h : accepts s) (hi : i.steady = true)
    (hrow : ∀ col row, i = .setCursor col row → ¬ 4 ≤ rowIndex s.rows row) : refusalBit i s = none := by
  cases i
  case setCursor col row => rw [refusalBit_setCursor_of_accepts h, if_neg (hrow col row rfl)]
  case init | legacyStatus | legacyKeypad | legacyBargraph | legacyContrast | legacyDelay => cases hi
  all_goals
    obtain ⟨hf, hs⟩ := h
    simp [refusalBit, Instr.steady, hf, hs]

/-! ### A request is refused, or performed with FSET as it was -/

/-- A check refuses the request and sets its FSET bit, or none does and the request leaves FSET. -/
def RefusedOrPerformed (i : Instr) (s : State) : Prop :=
  (∃ bit, refusalBit i s = some bit ∧ exec i s = .next (refusedWith bit s))
  ∨ (refusalBit i s = none ∧ ∃ t, exec i s = .next t ∧ t.fset = s.fset)

theorem cursorAddress_eq_none_iff (rows : Byte) (tab : RowTab) (col row : Byte) :
    cursorAddress rows tab col row = none ↔ 4 ≤ rowIndex rows row := by
  simp [cursorAddress_eq]

theorem refusedOrPerformed_of_accepts (h : accepts s) (hi : i.steady = true) : RefusedOrPerformed i s := by
  by_cases hoob : ∃ col row, i = .setCursor col row ∧ 4 ≤ rowIndex s.rows row
  · obtain ⟨col, row, rfl, hr⟩ := hoob
    exact .inl ⟨0x08#5, by rw [refusalBit_setCursor_of_accepts h, if_pos hr], exec_setCursor_of_row_oob col h hr⟩
  · have hrow (col row : Byte) (hc : i = .setCursor col row) : ¬ 4 ≤ rowIndex s.rows row :=
      fun hr => hoob ⟨col, row, hc, hr⟩
    rcases accepted_frame i hi s with ⟨-, col, row, hc, hnone⟩ | ⟨es, q, d, x, r, dc, em, b, he⟩
    · exact absurd ((cursorAddress_eq_none_iff _ _ _ _).1 hnone) (hrow col row hc)
    · exact .inr ⟨refusalBit_of_accepts h hi hrow, _, (exec_steady_of_accepts hi h).trans he, by simp⟩

theorem refusedOrPerformed_of_steady (hi : i.steady = true) (s : State) : RefusedOrPerformed i s := by
  cases hf : s.failed with
  | true => exact .inl ⟨0x10#5, refusalBit_of_failed hi hf, exec_steady_of_failed hi hf⟩
  | false =>
    by_cases hs : s.seq = 9#4
    · exact refusedOrPerformed_of_accepts ⟨hf, hs⟩ hi
    · exact .inl ⟨0x02#5, refusalBit_of_unready hi hf hs, exec_steady_of_unready hi hf hs⟩

theorem refusedOrPerformed_init (a : BusAddr) (cols rows : Byte) (font oled : Bool) (s : State) :
    RefusedOrPerformed (.init a cols rows font oled) s := by
  by_cases h0 : s.seq = 0#4
  · exact .inr ⟨if_pos h0, _, exec_init_eq_initDone a cols rows font oled h0, rfl⟩
  · exact .inl ⟨0x04#5, if_neg h0, exec_init_of_powered h0 a cols rows font oled⟩

theorem exec_refusedOrPerformed (i : Instr) (s : State) : RefusedOrPerformed i s := by
  cases hi : i.steady with
  | true => exact refusedOrPerformed_of_steady hi s
  | false =>
    cases i
    case init a cols rows font oled => exact refusedOrPerformed_init a cols rows font oled s
    case legacyStatus | legacyKeypad | legacyBargraph | legacyContrast | legacyDelay => exact .inr ⟨rfl, _, rfl, rfl⟩
    all_goals cases hi

/-- Settles O38: the check that refuses is the one the claim names, and where none does the request is performed. -/
theorem refusedRequestChangesOnlyFset : Obligations.RefusedRequestChangesOnlyFset := by
  intro i s
  rcases exec_refusedOrPerformed i s with ⟨bit, hbit, hexec⟩ | ⟨hnone, hexec⟩
  · refine ⟨fun bit' hbit' => ?_, fun hnone => absurd (hbit.symm.trans hnone) (by simp)⟩
    obtain rfl : bit = bit' := Option.some.inj (hbit.symm.trans hbit')
    exact hexec
  · exact ⟨fun bit hbit => absurd (hnone.symm.trans hbit) (by simp), fun _ => hexec⟩

/-! ### Every step answers -/

theorem exec_answers (i : Instr) (s : State) : ∃ t, exec i s = .next t := by
  rcases exec_refusedOrPerformed i s with ⟨bit, -, hexec⟩ | ⟨-, t, hexec, -⟩
  · exact ⟨_, hexec⟩
  · exact ⟨t, hexec⟩

theorem resumeHeld_answers (x : Held) (s : State) : ∃ t, resumeHeld x s = .next t := by
  cases x with
  | writeString len left => exact ⟨_, rfl⟩
  | defineCustomChar left => exact ⟨_, rfl⟩

/-- Settles O13: a step is a held request going on, a wait, a refused word or a request, and each of them answers. -/
theorem blockNeverStops : Obligations.BlockNeverStops := by
  intro s
  cases hh : s.held with
  | some x =>
    rw [step_of_held hh]
    exact resumeHeld_answers x s
  | none =>
    cases hr : s.requests with
    | nil => exact ⟨s, idleBlockWaits s hh hr⟩
    | cons w ws =>
      cases hd : decode w with
      | ok i =>
        rw [stepRunsDecodedRequest s w ws i hh hr hd]
        exact exec_answers i _
      | error r =>
        rw [step_of_takeRequest_illegal hh (State.takeRequest_of_requests_cons hr) hd]
        exact ⟨_, rfl⟩

/-! ### No fault bit is cleared -/

/-- Every bit of FSET, and XFAIL and FAILED, are set in the second state where they are set in the first. -/
structure KeepsFaultBits (s t : State) : Prop where
  fset : s.fset &&& t.fset = s.fset
  xfail : s.xfail = true → t.xfail = true
  failed : s.failed = true → t.failed = true

theorem keepsFaultBits_of_fset_eq (hs : t.fset = s.fset) (hx : s.xfail = true → t.xfail = true)
    (hf : s.failed = true → t.failed = true) : KeepsFaultBits s t :=
  ⟨by rw [hs, BitVec.and_self], hx, hf⟩

theorem keepsFaultBits_raiseFault (s : State) (c : Fault) : KeepsFaultBits s (s.raiseFault c) := by
  have habsorb (a b : BitVec 5) : a &&& (a ||| b) = a := by
    ext k hk
    simp only [BitVec.getElem_and, BitVec.getElem_or]
    exact inf_sup_self
  exact ⟨habsorb _ _, id, id⟩

theorem keepsFaultBits_resumeHeld {x : Held} (ht : resumeHeld x s = .next t) : KeepsFaultBits s t := by
  obtain ⟨es, q, d, h, r, rfl⟩ := resumeHeld_frame x s t ht
  exact keepsFaultBits_of_fset_eq (by simp) (fun hx => by simp [hx]) (by simp)

theorem keepsFaultBits_accepted (hi : i.steady = true) (ht : accepted i s = .next t) : KeepsFaultBits s t := by
  rcases accepted_frame i hi s with ⟨he, -⟩ | ⟨es, q, d, h, r, dc, em, b, he⟩
  · rw [he] at ht
    injection ht with ht
    exact ht ▸ keepsFaultBits_raiseFault s .rowOob
  · rw [he] at ht
    injection ht with ht
    rw [← ht]
    exact keepsFaultBits_of_fset_eq (by simp) (fun hx => by simp [hx]) (by simp)

theorem keepsFaultBits_initBody (bl : Bool) (a : BusAddr) (cols rows : Byte) (font oled : Bool) (s : State) :
    KeepsFaultBits s (initBody bl a cols rows font oled s) := by
  rw [initBody_eq]
  exact keepsFaultBits_of_fset_eq (by simp) (fun hx => by simp [hx]) (fun hf => by simp [hf])

theorem keepsFaultBits_exec (ht : exec i s = .next t) : KeepsFaultBits s t := by
  cases exec_cases i s t ht with
  | refused c ht => exact ht ▸ keepsFaultBits_raiseFault s c
  | legacy _ _ ht => exact ht ▸ keepsFaultBits_of_fset_eq rfl id id
  | init a cols rows font oled _ _ ht => exact ht ▸ keepsFaultBits_initBody _ a cols rows font oled s
  | steady hi _ _ ht => exact keepsFaultBits_accepted hi ht

/-- Settles O39: a step raises a fault, or emits, or waits, and none of these clears a bit. -/
theorem faultBitsAreSticky : Obligations.FaultBitsAreSticky := by
  intro s t hstep
  have hkeeps : KeepsFaultBits s t := by
    cases step_cases s t hstep with
    | held x _ ht => exact keepsFaultBits_resumeHeld ht
    | idle _ _ ht => exact ht ▸ keepsFaultBits_of_fset_eq rfl id id
    | illegal w ws r _ _ _ ht => exact ht ▸ { keepsFaultBits_raiseFault (s.setRequests ws) .illegalReq with }
    | run w ws i _ _ _ ht => exact { keepsFaultBits_exec ht with }
  obtain ⟨hfset, hxfail, hfailed⟩ := hkeeps
  exact ⟨hfset, hxfail, hfailed⟩

end Sys2Proof.Machine
end

section
/-! What the acknowledges decide (40_frame_encoder.md R108, 60_exceptions.md R206): two states that differ only there emit the
same events and go on differing only there; and what the events of a request make of XFAIL and FAILED. -/

namespace Sys2Proof.Machine

open Sys2Proof.Claims

variable {i : Instr} {s s' t : State}

/-! ### One rule per operation -/

theorem exists_eq_of_sameButAcks (h : sameButAcks s s') :
    ∃ x f acks n, s' = { s with xfail := x, failed := f, acks := acks, closes := n } :=
  ⟨s'.xfail, s'.failed, s'.acks, s'.closes, h⟩

theorem sameButAcks_setQf (h : sameButAcks s s') (q : Byte) : sameButAcks (s.setQf q) (s'.setQf q) :=
  congrArg (State.setQf · q) h
theorem sameButAcks_setDin (h : sameButAcks s s') (d : List Byte) : sameButAcks (s.setDin d) (s'.setDin d) :=
  congrArg (State.setDin · d) h
theorem sameButAcks_setHeld (h : sameButAcks s s') (x : Option Held) : sameButAcks (s.setHeld x) (s'.setHeld x) :=
  congrArg (State.setHeld · x) h
theorem sameButAcks_setResult (h : sameButAcks s s') (v : Half) : sameButAcks (s.setResult v) (s'.setResult v) :=
  congrArg (State.setResult · v) h
theorem sameButAcks_raiseFault (h : sameButAcks s s') (c : Fault) : sameButAcks (s.raiseFault c) (s'.raiseFault c) :=
  congrArg (State.raiseFault · c) h
theorem sameButAcks_setDctrl (h : sameButAcks s s') (d : Byte) : sameButAcks (s.setDctrl d) (s'.setDctrl d) :=
  congrArg (State.setDctrl · d) h
theorem sameButAcks_setEmode (h : sameButAcks s s') (e : Byte) : sameButAcks (s.setEmode e) (s'.setEmode e) :=
  congrArg (State.setEmode · e) h
theorem sameButAcks_setBl (h : sameButAcks s s') (v : Bool) : sameButAcks (s.setBl v) (s'.setBl v) :=
  congrArg (State.setBl · v) h
theorem sameButAcks_setSeq (h : sameButAcks s s') (q : BitVec 4) : sameButAcks (s.setSeq q) (s'.setSeq q) :=
  congrArg (State.setSeq · q) h
theorem sameButAcks_setFailed (h : sameButAcks s s') (f f' : Bool) : sameButAcks (s.setFailed f) (s'.setFailed f') :=
  congrArg (State.setFailed · f') h
theorem sameButAcks_initRegs (h : sameButAcks s s') (bl : Bool) (a : BusAddr) (cols rows : Byte) (font oled : Bool) :
    sameButAcks (s.configure bl a cols rows font oled).initMirrors (s'.configure bl a cols rows font oled).initMirrors :=
  congrArg (fun u : State => (u.configure bl a cols rows font oled).initMirrors) h

/-- Emitting the same events: the trace and TXOPEN do not depend on the acknowledges. -/
theorem sameButAcks_emit (h : sameButAcks s s') (es : List Event) : sameButAcks (s.emit es) (s'.emit es) := by
  obtain ⟨x, f, acks, n, rfl⟩ := exists_eq_of_sameButAcks h
  rw [State.emit_eq, State.emit_eq]
  rfl

/-! ### The loops that read DIN -/

theorem sameButAcks_wstrChar (h : sameButAcks s s') (cap : Nat) (c : Byte) :
    sameButAcks (wstrChar cap c s) (wstrChar cap c s') := by
  obtain ⟨x, f, acks, n, rfl⟩ := exists_eq_of_sameButAcks h
  rw [wstrChar_eq, wstrChar_eq]
  exact sameButAcks_setQf (sameButAcks_emit h _) _

theorem sameButAcks_wstrLoop (h : sameButAcks s s') (cap : Nat) (len : Half) (left : Nat) :
    sameButAcks (wstrLoop cap len left s) (wstrLoop cap len left s') := by
  induction left generalizing s s' with
  | zero =>
    exact sameButAcks_setResult (sameButAcks_setHeld (sameButAcks_setQf (sameButAcks_emit h [.closeTx true]) 0#8) none) len
  | succ left ih =>
    have hdin : s'.din = s.din := by rw [h]
    cases hd : s.din with
    | nil =>
      simp only [wstrLoop, State.dinRead, hdin, hd]
      exact sameButAcks_setHeld h _
    | cons c cs =>
      simp only [wstrLoop, State.dinRead, hdin, hd]
      exact ih (sameButAcks_wstrChar (sameButAcks_setDin h cs) cap c)

theorem sameButAcks_wstrBody (h : sameButAcks s s') (cap : Nat) (len : Half) :
    sameButAcks (wstrBody cap len s) (wstrBody cap len s') := by
  have haddr : s'.addr = s.addr := by rw [h]
  unfold wstrBody
  rw [haddr]
  split
  · exact sameButAcks_setResult h 0#16
  · exact sameButAcks_wstrLoop (sameButAcks_setQf (sameButAcks_emit h [.openTx s.addr]) 0#8) cap len len.toNat

theorem sameButAcks_glyphLoop (h : sameButAcks s s') (left : Nat) :
    sameButAcks (glyphLoop left s) (glyphLoop left s') := by
  induction left generalizing s s' with
  | zero => exact sameButAcks_setResult (sameButAcks_setHeld h none) 0#16
  | succ left ih =>
    have hdin : s'.din = s.din := by rw [h]
    have haddr : s'.addr = s.addr := by rw [h]
    have hbl : s'.bl = s.bl := by rw [h]
    cases hd : s.din with
    | nil =>
      simp only [glyphLoop, State.dinRead, hdin, hd]
      exact sameButAcks_setHeld h _
    | cons r rs =>
      simp only [glyphLoop, State.dinRead, hdin, hd, State.setDin_addr, State.setDin_bl, haddr, hbl]
      exact ih (sameButAcks_emit (sameButAcks_setDin h rs) _)

/-! ### Requests -/

/-- Both outcomes are next states, the same but for what acknowledges decide. -/
def NextButAcks (o o' : Host.Outcome State Fault Refusal) : Prop :=
  ∃ t u, o = .next t ∧ o' = .next u ∧ sameButAcks t u

theorem nextButAcks_next (h : sameButAcks s s') : NextButAcks (.next s) (.next s') := ⟨s, s', rfl, rfl, h⟩

theorem nextButAcks_refuse (h : sameButAcks s s') (c : Fault) : NextButAcks (refuse c s) (refuse c s') :=
  nextButAcks_next (sameButAcks_raiseFault h c)

theorem nextButAcks_perform (h : sameButAcks s s') (es : List Event) (v : Half) :
    NextButAcks (perform es v s) (perform es v s') :=
  nextButAcks_next (sameButAcks_setResult (sameButAcks_emit h es) v)

/-- An accepted request reads no acknowledge: its events are those of the same registers. -/
theorem nextButAcks_accepted (i : Instr) (h : sameButAcks s s') : NextButAcks (accepted i s) (accepted i s') := by
  obtain ⟨x, f, acks, n, rfl⟩ := exists_eq_of_sameButAcks h
  cases i
  case writeString len => exact nextButAcks_next (sameButAcks_wstrBody h Config.capFrames len)
  case defineCustomChar slot src =>
    exact nextButAcks_next (sameButAcks_glyphLoop (sameButAcks_emit h _) Config.cgRows)
  case setCursor col row =>
    cases hc : cursorAddress s.rows s.rowtab col row with
    | none =>
      simp only [accepted, hc]
      exact nextButAcks_refuse h .rowOob
    | some address =>
      simp only [accepted, hc]
      exact nextButAcks_perform h _ _
  case init | legacyStatus | legacyKeypad | legacyBargraph | legacyContrast | legacyDelay => exact nextButAcks_next h
  case command | writeChar | clear | home | scrollLeft | scrollRight | moveCursorLeft | moveCursorRight =>
    exact nextButAcks_perform h _ _
  case display | noDisplay | cursor | noCursor | blink | noBlink =>
    exact nextButAcks_perform (sameButAcks_setDctrl h _) _ _
  case setTextDirectionLtr | setTextDirectionRtl | autoscroll | noAutoscroll =>
    exact nextButAcks_perform (sameButAcks_setEmode h _) _ _
  case backlightOn | backlightOff | setBacklight => exact nextButAcks_perform (sameButAcks_setBl h _) _ _

theorem nextButAcks_guardSteady (h : sameButAcks s s') (hf : s'.failed = s.failed)
    {k : State → Host.Outcome State Fault Refusal} (hk : NextButAcks (k s) (k s')) :
    NextButAcks (guardSteady s k) (guardSteady s' k) := by
  have hseq : s'.seq = s.seq := by rw [h]
  unfold guardSteady
  rw [hf, hseq]
  split
  · exact nextButAcks_refuse h .handleFailed
  · split
    · exact nextButAcks_refuse h .notInit
    · exact hk

/-- INIT finds its own `initFail`, so FAILED may come out differently; nothing else may. -/
theorem sameButAcks_initBody (h : sameButAcks s s') (bl : Bool) (a : BusAddr) (cols rows : Byte) (font oled : Bool) :
    sameButAcks (initBody bl a cols rows font oled s) (initBody bl a cols rows font oled s') := by
  obtain ⟨x, f, acks, n, rfl⟩ := exists_eq_of_sameButAcks h
  rw [initBody_eq, initBody_eq]
  exact sameButAcks_setResult (sameButAcks_setFailed (sameButAcks_setSeq
    (sameButAcks_emit (sameButAcks_initRegs h bl a cols rows font oled) _) seqHomed) _ _) 0#16

theorem nextButAcks_exec (i : Instr) (h : sameButAcks s s') (hf : s'.failed = s.failed) :
    NextButAcks (exec i s) (exec i s') := by
  have hseq : s'.seq = s.seq := by rw [h]
  have hstub : NextButAcks (acceptStub s) (acceptStub s') := nextButAcks_next (sameButAcks_setResult h 0#16)
  cases hi : i.steady with
  | true =>
    rw [exec_steady i hi, exec_steady i hi]
    exact nextButAcks_guardSteady h hf (nextButAcks_accepted i h)
  | false =>
    cases i
    case init a cols rows font oled =>
      by_cases h0 : s.seq = 0#4
      · rw [exec_init_of_unpowered h0, exec_init_of_unpowered (hseq.trans h0)]
        exact nextButAcks_next (sameButAcks_initBody h _ a cols rows font oled)
      · rw [exec_init_of_powered h0, exec_init_of_powered (hseq ▸ h0)]
        exact nextButAcks_refuse h .reinit
    case legacyStatus | legacyKeypad | legacyBargraph | legacyContrast | legacyDelay => exact hstub
    all_goals cases hi

/-! ### XFAIL and FAILED -/

/-- The trace grows by the events, and XFAIL is set if one of their Closes is answered negatively. -/
structure NotesAcks (s t : State) (es : List Event) : Prop where
  trace : t.trace = s.trace ++ es
  xfail : t.xfail = (s.xfail || s.nackedIn (closeCount es))

theorem notesAcks_nil (ht : t.trace = s.trace) (hx : t.xfail = s.xfail) : NotesAcks s t [] :=
  ⟨by rw [ht, List.append_nil], by simp [hx, closeCount]⟩

theorem notesAcks_initBody (bl : Bool) (a : BusAddr) (cols rows : Byte) (font oled : Bool) (s : State) :
    ∃ es, NotesAcks s (initBody bl a cols rows font oled s) es
      ∧ (initBody bl a cols rows font oled s).failed = (s.failed || s.nackedIn (closeCount es)) := by
  let r := (s.configure bl a cols rows font oled).initMirrors
  have hnack (n : Nat) : r.nackedIn n = s.nackedIn n := rfl
  rw [initBody_eq]
  exact ⟨phaseEvents (initPhases r), ⟨by simp [r], by simp [r, ← hnack]⟩, rfl⟩

theorem notesAcks_accepted (hi : i.steady = true) (ht : accepted i s = .next t) :
    ∃ es, NotesAcks s t es ∧ t.failed = s.failed := by
  rcases accepted_frame i hi s with ⟨he, -⟩ | ⟨es, q, d, h, r, dc, em, b, he⟩
  · rw [he] at ht
    injection ht with ht
    exact ⟨[], ht ▸ notesAcks_nil rfl rfl, ht ▸ rfl⟩
  · rw [he] at ht
    injection ht with ht
    rw [← ht]
    exact ⟨es, ⟨by simp, by simp⟩, by simp⟩

/-- Every request but an accepted INIT leaves FAILED as it was. -/
theorem notesAcks_exec (hi : ∀ a cols rows font oled, i = .init a cols rows font oled → s.seq ≠ 0#4)
    (ht : exec i s = .next t) : ∃ es, NotesAcks s t es ∧ t.failed = s.failed := by
  cases exec_cases i s t ht with
  | refused c ht => exact ⟨[], ht ▸ notesAcks_nil rfl rfl, ht ▸ rfl⟩
  | legacy _ _ ht => exact ⟨[], ht ▸ notesAcks_nil rfl rfl, ht ▸ rfl⟩
  | init a cols rows font oled hinit h0 _ => exact absurd h0 (hi a cols rows font oled hinit)
  | steady hsteady _ _ ht => exact notesAcks_accepted hsteady ht

/-- Settles O40: the events say what becomes of XFAIL and FAILED, and a run with other acknowledges differs in these only. -/
theorem acknowledgesDecideOnlyXfailAndFailed : Obligations.AcknowledgesDecideOnlyXfailAndFailed := by
  intro i s t ht
  constructor
  · by_cases hinit : ∃ a cols rows font oled, i = .init a cols rows font oled ∧ s.seq = 0#4
    · obtain ⟨a, cols, rows, font, oled, rfl, h0⟩ := hinit
      rw [exec_init_of_unpowered h0] at ht
      injection ht with ht
      obtain ⟨es, ⟨htrace, hxfail⟩, hfailed⟩ := notesAcks_initBody (Config.blInit oled) a cols rows font oled s
      rw [ht] at htrace hxfail hfailed
      exact ⟨es, htrace, hxfail, fun hn => absurd rfl (hn a cols rows font oled), fun hn => absurd h0 hn,
        fun _ _ _ _ _ _ _ => hfailed⟩
    · have hni (a cols rows font oled) (hi : i = .init a cols rows font oled) : s.seq ≠ 0#4 :=
        fun h0 => hinit ⟨a, cols, rows, font, oled, hi, h0⟩
      obtain ⟨es, ⟨htrace, hxfail⟩, hfailed⟩ := notesAcks_exec hni ht
      exact ⟨es, htrace, hxfail, fun _ => hfailed, fun _ => hfailed,
        fun a cols rows font oled hi h0 => absurd h0 (hni a cols rows font oled hi)⟩
  · intro as n
    obtain ⟨t', u, ht', hu, hsame⟩ := nextButAcks_exec i (s := s) (s' := { s with acks := as, closes := n }) rfl rfl
    obtain rfl : t = t' := Host.Outcome.next.inj (ht.symm.trans ht')
    exact ⟨u, hu, hsame⟩

end Sys2Proof.Machine
end

section
/-! The transport's per-byte latency and the timing contract (70_reset_and_hazards.md R224, R225): a latch ends with the enable
line low, so the next latch takes two more writes, and two latencies pass between them. -/

namespace Sys2Proof.Machine

variable {w : Wiring} {latency : Nat}

/-! ### The spacing of the writes -/

theorem bytesSpaced_cons_cons {b c : Byte} {t u : Nat} {ws : List (Byte × Nat)} :
    bytesSpaced latency ((b, t) :: (c, u) :: ws) = true
      ↔ t + latency ≤ u ∧ bytesSpaced latency ((c, u) :: ws) = true := by
  simp [bytesSpaced]

theorem bytesSpaced_of_cons {b : Byte × Nat} {ws : List (Byte × Nat)} (h : bytesSpaced latency (b :: ws) = true) :
    bytesSpaced latency ws = true := by
  cases ws with
  | nil => rfl
  | cons c ws => exact (bytesSpaced_cons_cons.mp h).2

/-- The two writes of a pulse are consecutive, so one latency of 450 ns is between them (R224). -/
theorem pulseWidthsOk_of_bytesSpaced (hlat : Config.tEnMinNs ≤ latency) (ws : List (Byte × Nat))
    (h : bytesSpaced latency ws = true) : pulseWidthsOk w ws = true := by
  induction ws with
  | nil => rfl
  | cons b ws ih =>
    cases ws with
    | nil => rfl
    | cons c ws =>
      obtain ⟨hbc, hrest⟩ := bytesSpaced_cons_cons.mp h
      have hwidth : b.2 + Config.tEnMinNs ≤ c.2 := by omega
      simp [pulseWidthsOk, hwidth, ih hrest]

/-! ### When the writes latch -/

theorem enHigh_of_isLatch {prev : Option Byte} {b : Byte} (h : isLatch w prev b = true) : enHigh w b = false := by
  cases prev with
  | none => simp [isLatch] at h
  | some p => simp_all [isLatch]

theorem isLatch_of_low {p : Byte} (hp : enHigh w p = false) (b : Byte) : isLatch w (some p) b = false := by
  simp [isLatch, hp]

theorem timedLatches_cons_of_isLatch {prev : Option Byte} {b : Byte} (h : isLatch w prev b = true) (t : Nat)
    (ws : List (Byte × Nat)) :
    timedLatches w prev ((b, t) :: ws) = (latchOf w b, t) :: timedLatches w (some b) ws := by
  simp [timedLatches, h]

theorem timedLatches_cons_of_not_isLatch {prev : Option Byte} {b : Byte} (h : isLatch w prev b = false) (t : Nat)
    (ws : List (Byte × Nat)) :
    timedLatches w prev ((b, t) :: ws) = timedLatches w (some b) ws := by
  simp [timedLatches, h]

/-- Every latch after a write comes at least one latency after it. -/
theorem latency_le_of_mem_timedLatches (ws : List (Byte × Nat)) {b : Byte} {t : Nat}
    (h : bytesSpaced latency ((b, t) :: ws) = true) : ∀ x ∈ timedLatches w (some b) ws, t + latency ≤ x.2 := by
  induction ws generalizing b t with
  | nil => simp [timedLatches]
  | cons c ws ih =>
    obtain ⟨c, u⟩ := c
    obtain ⟨htu, hrest⟩ := bytesSpaced_cons_cons.mp h
    have hlater : ∀ x ∈ timedLatches w (some c) ws, t + latency ≤ x.2 := fun x hx => by
      have := ih hrest x hx
      omega
    cases hc : isLatch w (some b) c with
    | true => simpa [timedLatches_cons_of_isLatch hc, htu] using hlater
    | false => simpa [timedLatches_cons_of_not_isLatch hc] using hlater

/-- Every latch after a write with the enable line low comes at least two latencies after it: the line must rise first. -/
theorem two_latency_le_of_mem_timedLatches (ws : List (Byte × Nat)) {b : Byte} {t : Nat} (hb : enHigh w b = false)
    (h : bytesSpaced latency ((b, t) :: ws) = true) : ∀ x ∈ timedLatches w (some b) ws, t + 2 * latency ≤ x.2 := by
  cases ws with
  | nil => simp [timedLatches]
  | cons c ws =>
    obtain ⟨c, u⟩ := c
    obtain ⟨htu, hrest⟩ := bytesSpaced_cons_cons.mp h
    rw [timedLatches_cons_of_not_isLatch (isLatch_of_low hb c)]
    intro x hx
    have hux := latency_le_of_mem_timedLatches ws hrest x hx
    omega

/-! ### The settle time -/

theorem settleOk_cons {l : Latch} {t : Nat} {ls : List (Latch × Nat)} (hfar : ∀ x ∈ ls, t + Config.tCmdMinNs ≤ x.2)
    (h : settleOk ls = true) : settleOk ((l, t) :: ls) = true := by
  cases ls with
  | nil => rfl
  | cons x ls => simp [settleOk, hfar x List.mem_cons_self, h]

/-- Two latencies of at least 37 µs together settle every latch before the next (R225). -/
theorem settleOk_timedLatches (hlat : Config.tCmdMinNs ≤ 2 * latency) (ws : List (Byte × Nat)) (prev : Option Byte)
    (h : bytesSpaced latency ws = true) : settleOk (timedLatches w prev ws) = true := by
  induction ws generalizing prev with
  | nil => rfl
  | cons b ws ih =>
    obtain ⟨b, t⟩ := b
    have hrest := ih (some b) (bytesSpaced_of_cons h)
    cases hb : isLatch w prev b with
    | false => rwa [timedLatches_cons_of_not_isLatch hb]
    | true =>
      rw [timedLatches_cons_of_isLatch hb]
      refine settleOk_cons (fun x hx => ?_) hrest
      have htx := two_latency_le_of_mem_timedLatches ws (enHigh_of_isLatch hb) h x hx
      omega

/-- Settles O50: a pulse is two consecutive writes, and between two latches the enable line rises, which is a write more. -/
theorem byteLatencyMeetsPulseAndSettleTimes : Obligations.ByteLatencyMeetsPulseAndSettleTimes :=
  fun _ _ es h => ⟨fun hlat => pulseWidthsOk_of_bytesSpaced hlat (timedWrites es) h,
    fun hlat => settleOk_timedLatches hlat (timedWrites es) none h⟩

end Sys2Proof.Machine
end
